-- ==== Sys2Proof/Word.lean ====
section
/-!
DEFINITION. The bit-vector types of the machine. Every other file uses these names.
-/

namespace Sys2Proof

/-- One byte of data memory or of a slot (`10_state.md` R28, `30_encoding.md` R61). -/
abbrev Byte := BitVec 8

/-- The 32-bit operand of class ALU and JMP32, and the 'imm' field (`40_alu.md` R100, `30_encoding.md` R64). -/
abbrev Word32 := BitVec 32

/-- The 16-bit 'offset' field (`30_encoding.md` R64). -/
abbrev Offset := BitVec 16

/-- A 64-bit register value or data address (`10_state.md` R20, R28). -/
abbrev Word := BitVec 64

/-- One 64-bit unit of program text (`30_encoding.md` R60). The container is numbered by bytes: byte `k` of the
slot, in ascending address order, is bits `8k+7 .. 8k`, whatever the byte order of the host (log 18). -/
abbrev Slot := BitVec 64

end Sys2Proof
end

