-- ==== Sys2Proof/Config.lean ====
section
/-!
DEFINITION. What an implementation fixes and the free values: the byte order's name, the two kinds of helper call,
and the opaque constants that stand for what the spec leaves open. A constant of this file has no body: no proof can
see a value of it, so a statement holds for every value.
-/

namespace Sys2Proof

/-- `HOST_ENDIAN`, the byte order of the host (`00_scope.md` R5). -/
inductive Endian where
  /-- LE: the byte at the lowest address is the least significant. -/
  | little
  /-- BE: the byte at the lowest address is the most significant. -/
  | big
deriving DecidableEq, Repr, Inhabited

/-- The two ways a call names a helper function (`42_jump.md` R271, R273). Their id spaces are separate. -/
inductive CallKind where
  /-- `CALL_HELPER`: by static ID, the table `HELPERS`. -/
  | byId
  /-- `CALL_BTF`: by BTF ID, the table `BTF_HELPERS`. -/
  | byBtf
deriving DecidableEq, Repr, Inhabited

/-- What a helper function answers when it does not refuse (`42_jump.md` R275, R276): the result for R0, the bytes it
stores to data memory (anywhere, with the platform's rights), and the new platform state. -/
structure HelperAnswer where
  /-- The value R0 receives. -/
  result : Word
  /-- The bytes the helper writes, in order: the new data memory is the old one with these written. -/
  writes : List (Word × Byte)
  /-- The new platform state. -/
  plat : List Byte
deriving DecidableEq, Repr, Inhabited

/-- FREE VALUE (log 12). The launch byte at an address that no `init` of a region gives: "an unspecified launch byte is
a draw: any value, fixed once read until overwritten" (`20_memory.md` R53). A function of the address alone, so it is
the same at every read. -/
opaque Config.launchByte : Nat → Byte

/-- FREE VALUE (log 13). The oracle behind `shared` regions (`10_state.md` R29, `20_memory.md` R53): the n-th byte it
supplies in a run. -/
opaque Config.sharedByte : Nat → Byte

/-- FREE VALUE (log 15). Whether a helper of the platform refuses its arguments (`42_jump.md` R275): from the kind and
id of the call, the argument values, data memory, `plat`, and the count of oracle draws (`70_reset_and_hazards.md`
R423 (c)). -/
opaque Config.helperRefuses : CallKind → Word32 → List Word → List (Nat × Byte) → List Byte → Nat → Bool

/-- FREE VALUE (log 15). What a helper of the platform answers (`42_jump.md` R275): from the same arguments. -/
opaque Config.helperAnswer : CallKind → Word32 → List Word → List (Nat × Byte) → List Byte → Nat → HelperAnswer

end Sys2Proof
end

