-- ==== Sys2Proof/Machine/Bytes.lean ====
section
/-!
DEFINITION. Numbers and their bytes: the one place where the byte order of data is decided (`20_memory.md` R40), the
byte reversal of `00_scope.md` R8, and the byte-order conversions of the byte swap family.
-/

namespace Sys2Proof.Machine

/-- The `n` bytes of a number, least significant first. -/
def bytesOf : Nat → Nat → List Byte
  | 0, _ => []
  | n + 1, v => BitVec.ofNat 8 v :: bytesOf n (v / 256)

/-- The number whose bytes, least significant first, are the list. -/
def ofBytes : List Byte → Nat
  | [] => 0
  | b :: bs => b.toNat + 256 * ofBytes bs

/-- Bytes listed least significant first, put in the order of ascending addresses on the host, and back
(`20_memory.md` R40: on `LE` the byte at the lowest address is the least significant). -/
def inHostOrder (e : Endian) (bs : List Byte) : List Byte :=
  match e with
  | .little => bs
  | .big => bs.reverse

/-- The `n` bytes a store lays down at ascending addresses (`20_memory.md` R54 step 3). -/
def storedBytes (e : Endian) (n : Nat) (v : Word) : List Byte :=
  inHostOrder e (bytesOf n v.toNat)

/-- The value a load assembles from bytes at ascending addresses, zero-extended to 64 bits (`20_memory.md` R53
step 4). -/
def loadedValue (e : Endian) (bs : List Byte) : Word :=
  BitVec.ofNat 64 (ofBytes (inHostOrder e bs))

/-- `rev_N` for `N = 8n`, zero-extended to 64 bits (`00_scope.md` R8, `41_byteswap.md` R201): the low `n` bytes of the
value in opposite order. -/
def reverseBytes (n : Nat) (v : Word) : Word :=
  BitVec.ofNat 64 (ofBytes (bytesOf n v.toNat).reverse)

/-- The low `n` bytes, zero-extended to 64 bits: the identity function of `00_scope.md` R8 at width `8n`, with the
result of `41_byteswap.md` R201. -/
def lowBytes (n : Nat) (v : Word) : Word :=
  BitVec.ofNat 64 (v.toNat % 256 ^ n)

/-- `htole` of width `8n`: the identity on a little-endian host, `rev` on a big-endian one (`41_byteswap.md` R202). -/
def toLittle (e : Endian) (n : Nat) (v : Word) : Word :=
  match e with
  | .little => lowBytes n v
  | .big => reverseBytes n v

/-- `htobe` of width `8n`: `rev` on a little-endian host, the identity on a big-endian one (`41_byteswap.md` R202). -/
def toBig (e : Endian) (n : Nat) (v : Word) : Word :=
  match e with
  | .little => reverseBytes n v
  | .big => lowBytes n v

end Sys2Proof.Machine
end

