-- ==== Sys2Proof/Machine/Memory.lean ====
section
/-!
DEFINITION. Data memory as plain data (`10_state.md` R28): the bytes that something has written (the launch or a
store), as (address, byte) pairs in one canonical form. An unlisted address holds no written byte: `Memory.get`
answers `none`, and a load then takes the launch byte of the address, a free value (`20_memory.md` R53, log 12).
-/

namespace Sys2Proof.Machine

/-- The written bytes of data memory: addresses strictly rising and below 2^64 (`Memory.wf`). -/
abbrev Memory := List Host.Cell

/-- The byte last written at an address; `none` when nothing has written there. -/
def Memory.get : Memory → Nat → Option Byte
  | [], _ => none
  | (k, b) :: m, a => if k = a then some b else Memory.get m a

/-- Write one byte. An unlisted address reads as no value, so no written byte equals it and a write always leaves an
entry (log 27). -/
def Memory.set : Memory → Nat → Byte → Memory
  | [], a, b => [(a, b)]
  | (k, c) :: m, a, b =>
    if a < k then (a, b) :: (k, c) :: m
    else if a = k then (a, b) :: m
    else (k, c) :: Memory.set m a b

/-- Write bytes at ascending addresses. -/
def Memory.setBytes : Memory → Nat → List Byte → Memory
  | m, _, [] => m
  | m, a, b :: bs => Memory.setBytes (Memory.set m a b) (a + 1) bs

/-- Write bytes at the addresses given with them, in order: what a helper stores (`42_jump.md` R276). -/
def Memory.setAll : Memory → List (Word × Byte) → Memory
  | m, [] => m
  | m, (a, b) :: ws => Memory.setAll (Memory.set m a.toNat b) ws

/-- The canonical form from an address on: every address at least `lo`, rising, and below 2^64. -/
def Memory.wfFrom : Nat → Memory → Bool
  | _, [] => true
  | lo, (k, _) :: m => decide (lo ≤ k) && decide (k < 2 ^ 64) && Memory.wfFrom (k + 1) m

/-- The canonical form of data memory: addresses strictly rising, each a 64-bit address (`10_state.md` R28). -/
def Memory.wf (m : Memory) : Bool := Memory.wfFrom 0 m

end Sys2Proof.Machine
end

