-- ==== Sys2Proof/Syntax.lean ====
section
/-!
DEFINITION. The instructions: one constructor per row of `opcode_table.json`, its arguments the fields the row's format
uses as operands (`30_encoding.md` R78, Table R78-T). Register numbers are decoded into `Reg`, selecting fields into
the constructor.
-/

namespace Sys2Proof

/-- A register number, 0 to 10 (`10_state.md` R20, `30_encoding.md` R76). -/
inductive Reg where
  | r0 | r1 | r2 | r3 | r4 | r5 | r6 | r7 | r8 | r9 | r10
deriving DecidableEq, Repr, Inhabited

/-- The 170 instructions. `dst`, `src`, `off`, `imm`, `nextImm` are the fields 'dst_reg', 'src_reg', 'offset', 'imm' and
'next_imm'. -/
inductive Instr where
  -- Arithmetic (`40_alu.md`, `40_alu_2.md`)
  /-- `ADD32_K`, (ADD, K, ALU): R110. -/
  | add32K (dst : Reg) (imm : Word32)
  /-- `ADD32_X`, (ADD, X, ALU): R111. -/
  | add32X (dst : Reg) (src : Reg)
  /-- `ADD64_K`, (ADD, K, ALU64): R112. -/
  | add64K (dst : Reg) (imm : Word32)
  /-- `ADD64_X`, (ADD, X, ALU64): R113. -/
  | add64X (dst : Reg) (src : Reg)
  /-- `SUB32_K`, (SUB, K, ALU): R114. -/
  | sub32K (dst : Reg) (imm : Word32)
  /-- `SUB32_X`, (SUB, X, ALU): R115. -/
  | sub32X (dst : Reg) (src : Reg)
  /-- `SUB64_K`, (SUB, K, ALU64): R116. -/
  | sub64K (dst : Reg) (imm : Word32)
  /-- `SUB64_X`, (SUB, X, ALU64): R117. -/
  | sub64X (dst : Reg) (src : Reg)
  /-- `MUL32_K`, (MUL, K, ALU): R118. -/
  | mul32K (dst : Reg) (imm : Word32)
  /-- `MUL32_X`, (MUL, X, ALU): R119. -/
  | mul32X (dst : Reg) (src : Reg)
  /-- `MUL64_K`, (MUL, K, ALU64): R120. -/
  | mul64K (dst : Reg) (imm : Word32)
  /-- `MUL64_X`, (MUL, X, ALU64): R121. -/
  | mul64X (dst : Reg) (src : Reg)
  /-- `DIV32_K`, (DIV, K, ALU): R122. -/
  | div32K (dst : Reg) (imm : Word32)
  /-- `DIV32_X`, (DIV, X, ALU): R123. -/
  | div32X (dst : Reg) (src : Reg)
  /-- `DIV64_K`, (DIV, K, ALU64): R124. -/
  | div64K (dst : Reg) (imm : Word32)
  /-- `DIV64_X`, (DIV, X, ALU64): R125. -/
  | div64X (dst : Reg) (src : Reg)
  /-- `SDIV32_K`, (SDIV, K, ALU): R126. -/
  | sdiv32K (dst : Reg) (imm : Word32)
  /-- `SDIV32_X`, (SDIV, X, ALU): R127. -/
  | sdiv32X (dst : Reg) (src : Reg)
  /-- `SDIV64_K`, (SDIV, K, ALU64): R128. -/
  | sdiv64K (dst : Reg) (imm : Word32)
  /-- `SDIV64_X`, (SDIV, X, ALU64): R129. -/
  | sdiv64X (dst : Reg) (src : Reg)
  /-- `OR32_K`, (OR, K, ALU): R130. -/
  | or32K (dst : Reg) (imm : Word32)
  /-- `OR32_X`, (OR, X, ALU): R131. -/
  | or32X (dst : Reg) (src : Reg)
  /-- `OR64_K`, (OR, K, ALU64): R132. -/
  | or64K (dst : Reg) (imm : Word32)
  /-- `OR64_X`, (OR, X, ALU64): R133. -/
  | or64X (dst : Reg) (src : Reg)
  /-- `AND32_K`, (AND, K, ALU): R134. -/
  | and32K (dst : Reg) (imm : Word32)
  /-- `AND32_X`, (AND, X, ALU): R135. -/
  | and32X (dst : Reg) (src : Reg)
  /-- `AND64_K`, (AND, K, ALU64): R136. -/
  | and64K (dst : Reg) (imm : Word32)
  /-- `AND64_X`, (AND, X, ALU64): R137. -/
  | and64X (dst : Reg) (src : Reg)
  /-- `LSH32_K`, (LSH, K, ALU): R138. -/
  | lsh32K (dst : Reg) (imm : Word32)
  /-- `LSH32_X`, (LSH, X, ALU): R139. -/
  | lsh32X (dst : Reg) (src : Reg)
  /-- `LSH64_K`, (LSH, K, ALU64): R140. -/
  | lsh64K (dst : Reg) (imm : Word32)
  /-- `LSH64_X`, (LSH, X, ALU64): R141. -/
  | lsh64X (dst : Reg) (src : Reg)
  /-- `RSH32_K`, (RSH, K, ALU): R142. -/
  | rsh32K (dst : Reg) (imm : Word32)
  /-- `RSH32_X`, (RSH, X, ALU): R143. -/
  | rsh32X (dst : Reg) (src : Reg)
  /-- `RSH64_K`, (RSH, K, ALU64): R144. -/
  | rsh64K (dst : Reg) (imm : Word32)
  /-- `RSH64_X`, (RSH, X, ALU64): R145. -/
  | rsh64X (dst : Reg) (src : Reg)
  /-- `NEG32`, (NEG, K, ALU): R146. -/
  | neg32 (dst : Reg)
  /-- `NEG64`, (NEG, K, ALU64): R147. -/
  | neg64 (dst : Reg)
  /-- `MOD32_K`, (MOD, K, ALU): R148. -/
  | mod32K (dst : Reg) (imm : Word32)
  /-- `MOD32_X`, (MOD, X, ALU): R149. -/
  | mod32X (dst : Reg) (src : Reg)
  /-- `MOD64_K`, (MOD, K, ALU64): R150. -/
  | mod64K (dst : Reg) (imm : Word32)
  /-- `MOD64_X`, (MOD, X, ALU64): R151. -/
  | mod64X (dst : Reg) (src : Reg)
  /-- `SMOD32_K`, (SMOD, K, ALU): R152. -/
  | smod32K (dst : Reg) (imm : Word32)
  /-- `SMOD32_X`, (SMOD, X, ALU): R153. -/
  | smod32X (dst : Reg) (src : Reg)
  /-- `SMOD64_K`, (SMOD, K, ALU64): R154. -/
  | smod64K (dst : Reg) (imm : Word32)
  /-- `SMOD64_X`, (SMOD, X, ALU64): R155. -/
  | smod64X (dst : Reg) (src : Reg)
  /-- `XOR32_K`, (XOR, K, ALU): R156. -/
  | xor32K (dst : Reg) (imm : Word32)
  /-- `XOR32_X`, (XOR, X, ALU): R157. -/
  | xor32X (dst : Reg) (src : Reg)
  /-- `XOR64_K`, (XOR, K, ALU64): R158. -/
  | xor64K (dst : Reg) (imm : Word32)
  /-- `XOR64_X`, (XOR, X, ALU64): R159. -/
  | xor64X (dst : Reg) (src : Reg)
  /-- `MOV32_K`, (MOV, K, ALU): R160. -/
  | mov32K (dst : Reg) (imm : Word32)
  /-- `MOV32_X`, (MOV, X, ALU): R161. -/
  | mov32X (dst : Reg) (src : Reg)
  /-- `MOV64_K`, (MOV, K, ALU64): R162. -/
  | mov64K (dst : Reg) (imm : Word32)
  /-- `MOV64_X`, (MOV, X, ALU64): R163. -/
  | mov64X (dst : Reg) (src : Reg)
  /-- `MOVSX32_8`, (MOVSX, X, ALU): R164. -/
  | movsx32From8 (dst : Reg) (src : Reg)
  /-- `MOVSX32_16`, (MOVSX, X, ALU): R165. -/
  | movsx32From16 (dst : Reg) (src : Reg)
  /-- `MOVSX64_8`, (MOVSX, X, ALU64): R166. -/
  | movsx64From8 (dst : Reg) (src : Reg)
  /-- `MOVSX64_16`, (MOVSX, X, ALU64): R167. -/
  | movsx64From16 (dst : Reg) (src : Reg)
  /-- `MOVSX64_32`, (MOVSX, X, ALU64): R168. -/
  | movsx64From32 (dst : Reg) (src : Reg)
  /-- `ARSH32_K`, (ARSH, K, ALU): R169. -/
  | arsh32K (dst : Reg) (imm : Word32)
  /-- `ARSH32_X`, (ARSH, X, ALU): R170. -/
  | arsh32X (dst : Reg) (src : Reg)
  /-- `ARSH64_K`, (ARSH, K, ALU64): R171. -/
  | arsh64K (dst : Reg) (imm : Word32)
  /-- `ARSH64_X`, (ARSH, X, ALU64): R172. -/
  | arsh64X (dst : Reg) (src : Reg)
  -- Byte swap (`41_byteswap.md`)
  /-- `LE16`, (END, TO_LE, ALU) with 'imm' = 16: R203. -/
  | le16 (dst : Reg)
  /-- `LE32`, (END, TO_LE, ALU) with 'imm' = 32: R204. -/
  | le32 (dst : Reg)
  /-- `LE64`, (END, TO_LE, ALU) with 'imm' = 64: R205. -/
  | le64 (dst : Reg)
  /-- `BE16`, (END, TO_BE, ALU) with 'imm' = 16: R206. -/
  | be16 (dst : Reg)
  /-- `BE32`, (END, TO_BE, ALU) with 'imm' = 32: R207. -/
  | be32 (dst : Reg)
  /-- `BE64`, (END, TO_BE, ALU) with 'imm' = 64: R208. -/
  | be64 (dst : Reg)
  /-- `BSWAP16`, (END, TO_LE, ALU64) with 'imm' = 16: R209. -/
  | bswap16 (dst : Reg)
  /-- `BSWAP32`, (END, TO_LE, ALU64) with 'imm' = 32: R210. -/
  | bswap32 (dst : Reg)
  /-- `BSWAP64`, (END, TO_LE, ALU64) with 'imm' = 64: R211. -/
  | bswap64 (dst : Reg)
  -- Jump, call, exit (`42_jump.md`)
  /-- `JA`, (JA, K, JMP): R225. -/
  | ja (off : Offset)
  /-- `JA32`, (JA, K, JMP32): R226. -/
  | ja32 (imm : Word32)
  /-- `JEQ64_K`, (JEQ, K, JMP): R227. -/
  | jeq64K (dst : Reg) (imm : Word32) (off : Offset)
  /-- `JEQ64_X`, (JEQ, X, JMP): R228. -/
  | jeq64X (dst : Reg) (src : Reg) (off : Offset)
  /-- `JEQ32_K`, (JEQ, K, JMP32): R229. -/
  | jeq32K (dst : Reg) (imm : Word32) (off : Offset)
  /-- `JEQ32_X`, (JEQ, X, JMP32): R230. -/
  | jeq32X (dst : Reg) (src : Reg) (off : Offset)
  /-- `JGT64_K`, (JGT, K, JMP): R231. -/
  | jgt64K (dst : Reg) (imm : Word32) (off : Offset)
  /-- `JGT64_X`, (JGT, X, JMP): R232. -/
  | jgt64X (dst : Reg) (src : Reg) (off : Offset)
  /-- `JGT32_K`, (JGT, K, JMP32): R233. -/
  | jgt32K (dst : Reg) (imm : Word32) (off : Offset)
  /-- `JGT32_X`, (JGT, X, JMP32): R234. -/
  | jgt32X (dst : Reg) (src : Reg) (off : Offset)
  /-- `JGE64_K`, (JGE, K, JMP): R235. -/
  | jge64K (dst : Reg) (imm : Word32) (off : Offset)
  /-- `JGE64_X`, (JGE, X, JMP): R236. -/
  | jge64X (dst : Reg) (src : Reg) (off : Offset)
  /-- `JGE32_K`, (JGE, K, JMP32): R237. -/
  | jge32K (dst : Reg) (imm : Word32) (off : Offset)
  /-- `JGE32_X`, (JGE, X, JMP32): R238. -/
  | jge32X (dst : Reg) (src : Reg) (off : Offset)
  /-- `JSET64_K`, (JSET, K, JMP): R239. -/
  | jset64K (dst : Reg) (imm : Word32) (off : Offset)
  /-- `JSET64_X`, (JSET, X, JMP): R240. -/
  | jset64X (dst : Reg) (src : Reg) (off : Offset)
  /-- `JSET32_K`, (JSET, K, JMP32): R241. -/
  | jset32K (dst : Reg) (imm : Word32) (off : Offset)
  /-- `JSET32_X`, (JSET, X, JMP32): R242. -/
  | jset32X (dst : Reg) (src : Reg) (off : Offset)
  /-- `JNE64_K`, (JNE, K, JMP): R243. -/
  | jne64K (dst : Reg) (imm : Word32) (off : Offset)
  /-- `JNE64_X`, (JNE, X, JMP): R244. -/
  | jne64X (dst : Reg) (src : Reg) (off : Offset)
  /-- `JNE32_K`, (JNE, K, JMP32): R245. -/
  | jne32K (dst : Reg) (imm : Word32) (off : Offset)
  /-- `JNE32_X`, (JNE, X, JMP32): R246. -/
  | jne32X (dst : Reg) (src : Reg) (off : Offset)
  /-- `JSGT64_K`, (JSGT, K, JMP): R247. -/
  | jsgt64K (dst : Reg) (imm : Word32) (off : Offset)
  /-- `JSGT64_X`, (JSGT, X, JMP): R248. -/
  | jsgt64X (dst : Reg) (src : Reg) (off : Offset)
  /-- `JSGT32_K`, (JSGT, K, JMP32): R249. -/
  | jsgt32K (dst : Reg) (imm : Word32) (off : Offset)
  /-- `JSGT32_X`, (JSGT, X, JMP32): R250. -/
  | jsgt32X (dst : Reg) (src : Reg) (off : Offset)
  /-- `JSGE64_K`, (JSGE, K, JMP): R251. -/
  | jsge64K (dst : Reg) (imm : Word32) (off : Offset)
  /-- `JSGE64_X`, (JSGE, X, JMP): R252. -/
  | jsge64X (dst : Reg) (src : Reg) (off : Offset)
  /-- `JSGE32_K`, (JSGE, K, JMP32): R253. -/
  | jsge32K (dst : Reg) (imm : Word32) (off : Offset)
  /-- `JSGE32_X`, (JSGE, X, JMP32): R254. -/
  | jsge32X (dst : Reg) (src : Reg) (off : Offset)
  /-- `JLT64_K`, (JLT, K, JMP): R255. -/
  | jlt64K (dst : Reg) (imm : Word32) (off : Offset)
  /-- `JLT64_X`, (JLT, X, JMP): R256. -/
  | jlt64X (dst : Reg) (src : Reg) (off : Offset)
  /-- `JLT32_K`, (JLT, K, JMP32): R257. -/
  | jlt32K (dst : Reg) (imm : Word32) (off : Offset)
  /-- `JLT32_X`, (JLT, X, JMP32): R258. -/
  | jlt32X (dst : Reg) (src : Reg) (off : Offset)
  /-- `JLE64_K`, (JLE, K, JMP): R259. -/
  | jle64K (dst : Reg) (imm : Word32) (off : Offset)
  /-- `JLE64_X`, (JLE, X, JMP): R260. -/
  | jle64X (dst : Reg) (src : Reg) (off : Offset)
  /-- `JLE32_K`, (JLE, K, JMP32): R261. -/
  | jle32K (dst : Reg) (imm : Word32) (off : Offset)
  /-- `JLE32_X`, (JLE, X, JMP32): R262. -/
  | jle32X (dst : Reg) (src : Reg) (off : Offset)
  /-- `JSLT64_K`, (JSLT, K, JMP): R263. -/
  | jslt64K (dst : Reg) (imm : Word32) (off : Offset)
  /-- `JSLT64_X`, (JSLT, X, JMP): R264. -/
  | jslt64X (dst : Reg) (src : Reg) (off : Offset)
  /-- `JSLT32_K`, (JSLT, K, JMP32): R265. -/
  | jslt32K (dst : Reg) (imm : Word32) (off : Offset)
  /-- `JSLT32_X`, (JSLT, X, JMP32): R266. -/
  | jslt32X (dst : Reg) (src : Reg) (off : Offset)
  /-- `JSLE64_K`, (JSLE, K, JMP): R267. -/
  | jsle64K (dst : Reg) (imm : Word32) (off : Offset)
  /-- `JSLE64_X`, (JSLE, X, JMP): R268. -/
  | jsle64X (dst : Reg) (src : Reg) (off : Offset)
  /-- `JSLE32_K`, (JSLE, K, JMP32): R269. -/
  | jsle32K (dst : Reg) (imm : Word32) (off : Offset)
  /-- `JSLE32_X`, (JSLE, X, JMP32): R270. -/
  | jsle32X (dst : Reg) (src : Reg) (off : Offset)
  /-- `CALL_HELPER`, (CALL, K, JMP) with 'src_reg' = 0: R271. -/
  | callHelper (imm : Word32)
  /-- `CALL_LOCAL`, (CALL, K, JMP) with 'src_reg' = 1: R272. -/
  | callLocal (imm : Word32)
  /-- `CALL_BTF`, (CALL, K, JMP) with 'src_reg' = 2: R273. -/
  | callBtf (imm : Word32)
  /-- `EXIT`, (EXIT, K, JMP): R274. -/
  | exit
  -- Load and store (`43_load_store.md`)
  /-- `LDXW`, (MEM, W, LDX): R292. -/
  | ldxw (dst : Reg) (src : Reg) (off : Offset)
  /-- `LDXH`, (MEM, H, LDX): R293. -/
  | ldxh (dst : Reg) (src : Reg) (off : Offset)
  /-- `LDXB`, (MEM, B, LDX): R294. -/
  | ldxb (dst : Reg) (src : Reg) (off : Offset)
  /-- `LDXDW`, (MEM, DW, LDX): R295. -/
  | ldxdw (dst : Reg) (src : Reg) (off : Offset)
  /-- `LDXSW`, (MEMSX, W, LDX): R296. -/
  | ldxsw (dst : Reg) (src : Reg) (off : Offset)
  /-- `LDXSH`, (MEMSX, H, LDX): R297. -/
  | ldxsh (dst : Reg) (src : Reg) (off : Offset)
  /-- `LDXSB`, (MEMSX, B, LDX): R298. -/
  | ldxsb (dst : Reg) (src : Reg) (off : Offset)
  /-- `STW`, (MEM, W, ST): R299. -/
  | stw (dst : Reg) (off : Offset) (imm : Word32)
  /-- `STH`, (MEM, H, ST): R300. -/
  | sth (dst : Reg) (off : Offset) (imm : Word32)
  /-- `STB`, (MEM, B, ST): R301. -/
  | stb (dst : Reg) (off : Offset) (imm : Word32)
  /-- `STDW`, (MEM, DW, ST): R302. -/
  | stdw (dst : Reg) (off : Offset) (imm : Word32)
  /-- `STXW`, (MEM, W, STX): R303. -/
  | stxw (dst : Reg) (src : Reg) (off : Offset)
  /-- `STXH`, (MEM, H, STX): R304. -/
  | stxh (dst : Reg) (src : Reg) (off : Offset)
  /-- `STXB`, (MEM, B, STX): R305. -/
  | stxb (dst : Reg) (src : Reg) (off : Offset)
  /-- `STXDW`, (MEM, DW, STX): R306. -/
  | stxdw (dst : Reg) (src : Reg) (off : Offset)
  -- Atomic (`44_atomic.md`)
  /-- `AADD32`, (ATOMIC, W, STX) with 'imm' = 0x00 (ADD): R325. -/
  | aadd32 (dst : Reg) (src : Reg) (off : Offset)
  /-- `AADD32_FETCH`, (ATOMIC, W, STX) with 'imm' = 0x01 (ADD or FETCH): R326. -/
  | aadd32Fetch (dst : Reg) (src : Reg) (off : Offset)
  /-- `AOR32`, (ATOMIC, W, STX) with 'imm' = 0x40 (OR): R327. -/
  | aor32 (dst : Reg) (src : Reg) (off : Offset)
  /-- `AOR32_FETCH`, (ATOMIC, W, STX) with 'imm' = 0x41 (OR or FETCH): R328. -/
  | aor32Fetch (dst : Reg) (src : Reg) (off : Offset)
  /-- `AAND32`, (ATOMIC, W, STX) with 'imm' = 0x50 (AND): R329. -/
  | aand32 (dst : Reg) (src : Reg) (off : Offset)
  /-- `AAND32_FETCH`, (ATOMIC, W, STX) with 'imm' = 0x51 (AND or FETCH): R330. -/
  | aand32Fetch (dst : Reg) (src : Reg) (off : Offset)
  /-- `AXOR32`, (ATOMIC, W, STX) with 'imm' = 0xa0 (XOR): R331. -/
  | axor32 (dst : Reg) (src : Reg) (off : Offset)
  /-- `AXOR32_FETCH`, (ATOMIC, W, STX) with 'imm' = 0xa1 (XOR or FETCH): R332. -/
  | axor32Fetch (dst : Reg) (src : Reg) (off : Offset)
  /-- `AXCHG32`, (ATOMIC, W, STX) with 'imm' = 0xe1 (XCHG or FETCH): R333. -/
  | axchg32 (dst : Reg) (src : Reg) (off : Offset)
  /-- `ACMPXCHG32`, (ATOMIC, W, STX) with 'imm' = 0xf1 (CMPXCHG or FETCH): R334. -/
  | acmpxchg32 (dst : Reg) (src : Reg) (off : Offset)
  /-- `AADD64`, (ATOMIC, DW, STX) with 'imm' = 0x00 (ADD): R335. -/
  | aadd64 (dst : Reg) (src : Reg) (off : Offset)
  /-- `AADD64_FETCH`, (ATOMIC, DW, STX) with 'imm' = 0x01 (ADD or FETCH): R336. -/
  | aadd64Fetch (dst : Reg) (src : Reg) (off : Offset)
  /-- `AOR64`, (ATOMIC, DW, STX) with 'imm' = 0x40 (OR): R337. -/
  | aor64 (dst : Reg) (src : Reg) (off : Offset)
  /-- `AOR64_FETCH`, (ATOMIC, DW, STX) with 'imm' = 0x41 (OR or FETCH): R338. -/
  | aor64Fetch (dst : Reg) (src : Reg) (off : Offset)
  /-- `AAND64`, (ATOMIC, DW, STX) with 'imm' = 0x50 (AND): R339. -/
  | aand64 (dst : Reg) (src : Reg) (off : Offset)
  /-- `AAND64_FETCH`, (ATOMIC, DW, STX) with 'imm' = 0x51 (AND or FETCH): R340. -/
  | aand64Fetch (dst : Reg) (src : Reg) (off : Offset)
  /-- `AXOR64`, (ATOMIC, DW, STX) with 'imm' = 0xa0 (XOR): R341. -/
  | axor64 (dst : Reg) (src : Reg) (off : Offset)
  /-- `AXOR64_FETCH`, (ATOMIC, DW, STX) with 'imm' = 0xa1 (XOR or FETCH): R342. -/
  | axor64Fetch (dst : Reg) (src : Reg) (off : Offset)
  /-- `AXCHG64`, (ATOMIC, DW, STX) with 'imm' = 0xe1 (XCHG or FETCH): R343. -/
  | axchg64 (dst : Reg) (src : Reg) (off : Offset)
  /-- `ACMPXCHG64`, (ATOMIC, DW, STX) with 'imm' = 0xf1 (CMPXCHG or FETCH): R344. -/
  | acmpxchg64 (dst : Reg) (src : Reg) (off : Offset)
  -- 64-bit immediate (`45_imm64.md`)
  /-- `LDDW`, (IMM, DW, LD) with 'src_reg' = 0: R352. -/
  | lddw (dst : Reg) (imm : Word32) (nextImm : Word32)
  /-- `LD_MAP_FD`, (IMM, DW, LD) with 'src_reg' = 1: R353. -/
  | ldMapFd (dst : Reg) (imm : Word32)
  /-- `LD_MAP_VAL_FD`, (IMM, DW, LD) with 'src_reg' = 2: R354. -/
  | ldMapValFd (dst : Reg) (imm : Word32) (nextImm : Word32)
  /-- `LD_VAR_ADDR`, (IMM, DW, LD) with 'src_reg' = 3: R355. -/
  | ldVarAddr (dst : Reg) (imm : Word32)
  /-- `LD_CODE_ADDR`, (IMM, DW, LD) with 'src_reg' = 4: R356. -/
  | ldCodeAddr (dst : Reg) (imm : Word32)
  /-- `LD_MAP_IDX`, (IMM, DW, LD) with 'src_reg' = 5: R357. -/
  | ldMapIdx (dst : Reg) (imm : Word32)
  /-- `LD_MAP_VAL_IDX`, (IMM, DW, LD) with 'src_reg' = 6: R358. -/
  | ldMapValIdx (dst : Reg) (imm : Word32) (nextImm : Word32)
  -- Legacy packet access (`46_legacy_packet.md`)
  /-- `LDABSW`, (ABS, W, LD): R371. -/
  | ldabsw (imm : Word32)
  /-- `LDABSH`, (ABS, H, LD): R372. -/
  | ldabsh (imm : Word32)
  /-- `LDABSB`, (ABS, B, LD): R373. -/
  | ldabsb (imm : Word32)
  /-- `LDINDW`, (IND, W, LD): R374. -/
  | ldindw (src : Reg) (imm : Word32)
  /-- `LDINDH`, (IND, H, LD): R375. -/
  | ldindh (src : Reg) (imm : Word32)
  /-- `LDINDB`, (IND, B, LD): R376. -/
  | ldindb (src : Reg) (imm : Word32)
deriving DecidableEq, Repr

end Sys2Proof
end

