-- ==== Sys2Proof/Machine/Registers.lean ====
section
/-!
DEFINITION. The register file: eleven cells, each a 64-bit value or *unwritten* (`10_state.md` R20, R22). No register
is hard-wired and none stands for another (R20).
-/

namespace Sys2Proof.Machine

/-- A register cell (`10_state.md` R22). `unwritten` is the spec's own state: what a call makes of a register it does
not preserve, and what an entry argument may leave (log 10). -/
inductive Cell where
  /-- No value: reading it raises `UninitRegister`. -/
  | unwritten
  /-- The 64-bit value. -/
  | written (v : Word)
deriving DecidableEq, Repr, Inhabited

/-- R0 to R10 (`10_state.md` R20). -/
structure Regs where
  r0 : Cell
  r1 : Cell
  r2 : Cell
  r3 : Cell
  r4 : Cell
  r5 : Cell
  r6 : Cell
  r7 : Cell
  r8 : Cell
  r9 : Cell
  r10 : Cell
deriving DecidableEq, Repr, Inhabited

/-- The cell of a register. -/
def Regs.get (g : Regs) : Reg → Cell
  | .r0 => g.r0
  | .r1 => g.r1
  | .r2 => g.r2
  | .r3 => g.r3
  | .r4 => g.r4
  | .r5 => g.r5
  | .r6 => g.r6
  | .r7 => g.r7
  | .r8 => g.r8
  | .r9 => g.r9
  | .r10 => g.r10

/-- The register file with one cell replaced. -/
def Regs.set (g : Regs) (r : Reg) (c : Cell) : Regs :=
  match r with
  | .r0 => { g with r0 := c }
  | .r1 => { g with r1 := c }
  | .r2 => { g with r2 := c }
  | .r3 => { g with r3 := c }
  | .r4 => { g with r4 := c }
  | .r5 => { g with r5 := c }
  | .r6 => { g with r6 := c }
  | .r7 => { g with r7 := c }
  | .r8 => { g with r8 := c }
  | .r9 => { g with r9 := c }
  | .r10 => { g with r10 := c }

/-- The file with R1 to R5 unwritten: what a helper call (`42_jump.md` R275) and a return under the `linux` policy
(R277) leave of the argument registers. -/
def Regs.dropArguments (g : Regs) : Regs :=
  { g with r1 := .unwritten, r2 := .unwritten, r3 := .unwritten, r4 := .unwritten, r5 := .unwritten }

/-- The five cells a frame saves under the `linux` policy (`42_jump.md` R277). -/
structure SavedRegs where
  r6 : Cell
  r7 : Cell
  r8 : Cell
  r9 : Cell
  r10 : Cell
deriving DecidableEq, Repr, Inhabited

/-- R6 to R10 as they stand, written or not (`42_jump.md` R277). -/
def Regs.saved (g : Regs) : SavedRegs :=
  { r6 := g.r6, r7 := g.r7, r8 := g.r8, r9 := g.r9, r10 := g.r10 }

/-- The registers a callee starts with under the `linux` policy: R0 and R6 to R9 unwritten, R10 the callee's frame
pointer, R1 to R5 kept as the arguments (`42_jump.md` R277). -/
def Regs.enterCallee (g : Regs) (framePointer : Word) : Regs :=
  { g with
    r0 := .unwritten, r6 := .unwritten, r7 := .unwritten, r8 := .unwritten, r9 := .unwritten
    r10 := .written framePointer }

/-- The registers a caller gets back under the `linux` policy: R6 to R10 as saved, R1 to R5 unwritten, R0 unchanged
(`42_jump.md` R277). -/
def Regs.leaveCallee (g : Regs) (sv : SavedRegs) : Regs :=
  { g.dropArguments with r6 := sv.r6, r7 := sv.r7, r8 := sv.r8, r9 := sv.r9, r10 := sv.r10 }

end Sys2Proof.Machine
end

