-- ==== Sys2Proof/Machine/Launch.lean ====
section
/-!
DEFINITION. The launch parameters of a run (`00_scope.md` R5, Table R5-T), as plain data, with the values the reset
launch gives them. No instruction writes one: they are constant during the run (`70_reset_and_hazards.md` R410,
R424). Log 1 says why they stand in `State`.
-/

namespace Sys2Proof.Machine

/-- Who may touch a region (`10_state.md` R29). `unshared` is the spec's other marking. -/
inductive Sharing where
  /-- Only this run writes it: a read gives the byte last written, else the launch byte. -/
  | unshared
  /-- Other agents may write it: a read is answered by the oracle. -/
  | shared
deriving DecidableEq, Repr, Inhabited

/-- One region of the launch memory (`20_memory.md` R45). -/
structure Region where
  base : Word
  len : Nat
  readable : Bool
  writable : Bool
  sharing : Sharing
  /-- The launch contents; `none` is *unspecified*: a draw per byte. -/
  init : Option (List Byte)
deriving DecidableEq, Repr, Inhabited

/-- What is known beforehand of a helper's refusals (`42_jump.md` R275; log 15). -/
inductive Refusing where
  /-- The function is total on its arguments. -/
  | never
  /-- The entry is a refusal, as R275 asks for helpers that do not return. -/
  | always
  /-- The platform decides at the call: the free value `Config.helperRefuses`. -/
  | platform
deriving DecidableEq, Repr, Inhabited

/-- An entry `(k, f)` of `HELPERS` or `BTF_HELPERS` (`42_jump.md` R275): `k` in 0..5; `f` is the free values of
`Config` at the entry's kind and id. -/
structure Helper where
  arity : Fin 6
  refusing : Refusing
deriving DecidableEq, Repr, Inhabited

/-- `CALL_FRAME_POLICY` (`42_jump.md` R277). -/
inductive FramePolicy where
  | linux
  | controlOnly
deriving DecidableEq, Repr, Inhabited

/-- `GROUPS`, the supported conformance groups (`00_scope.md` R3). -/
structure Groups where
  base32 : Bool
  base64 : Bool
  atomic32 : Bool
  atomic64 : Bool
  divmul32 : Bool
  divmul64 : Bool
  packet : Bool
deriving DecidableEq, Repr, Inhabited

/-- The launch parameters (`00_scope.md` Table R5-T). The partial functions of the platform are finite tables of
arguments and values (log 17); `FRAME_TOP` is a table of the first depths and a formula for the rest (log 7). -/
structure Params where
  hostEndian : Endian
  groups : Groups
  /-- `PROGRAM`. -/
  program : List Slot
  regions : List Region
  strictAlignment : Bool
  strictUnused : Bool
  fpReadonly : Bool
  /-- `MAX_CALL_DEPTH`; `none` is infinity (`42_jump.md` R279). -/
  maxCallDepth : Option Nat
  framePolicy : FramePolicy
  stackFrameSize : Nat
  /-- `FRAME_TOP(d)` for the depths the list reaches. -/
  frameTops : List Word
  /-- `FRAME_TOP(d)` beyond the list: this value minus `d` frames. -/
  stackTop : Word
  /-- `HELPERS`. -/
  helpers : List (Word32 × Helper)
  /-- `BTF_HELPERS`. -/
  btfHelpers : List (Word32 × Helper)
  mapByFd : List (Word32 × Word)
  mapByIdx : List (Word32 × Word)
  mapVal : List (Word × Word)
  varAddr : List (Word32 × Word)
  /-- `CODE_ADDR`, whose argument is the slot index of the instruction and its 'imm'. -/
  codeAddr : List ((Int × Word32) × Word)
deriving DecidableEq, Repr, Inhabited

/-- `FRAME_TOP(d)`: the value R10 holds at call depth `d` (`42_jump.md` R277). -/
def Params.frameTop (p : Params) (d : Nat) : Word :=
  match p.frameTops[d]? with
  | some top => top
  | none => p.stackTop - BitVec.ofNat 64 (d * p.stackFrameSize)

/-- The value a finite table gives its argument; `none` where it is not defined. -/
def lookup {α β : Type} [DecidableEq α] : List (α × β) → α → Option β
  | [], _ => none
  | (k, v) :: t, a => if k = a then some v else lookup t a

/-- The helper an id names, in the table of the call's kind (`42_jump.md` R271, R273). -/
def Params.helper (p : Params) (kind : CallKind) (id : Word32) : Option Helper :=
  match kind with
  | .byId => lookup p.helpers id
  | .byBtf => lookup p.btfHelpers id

/-- Data memory at entry (`70_reset_and_hazards.md` Table R410-T): the `init` bytes of each unshared region. Bytes
without `init` are unlisted; bytes of shared regions are the oracle's. -/
def launchMemory (regions : List Region) : Memory :=
  regions.foldl
    (fun m r =>
      match r.sharing, r.init with
      | .unshared, some bytes => m.setBytes r.base.toNat bytes
      | _, _ => m)
    []

/-- The stack frame of one call depth: `STACK_FRAME_SIZE` readable and writable bytes just below the frame's top,
contents unspecified (`20_memory.md` R45). -/
def stackFrame (top : Word) (size : Nat) : Region :=
  { base := top - BitVec.ofNat 64 size, len := size, readable := true, writable := true, sharing := .unshared,
    init := none }

/-- `GROUPS` as the spec suggests: all but `packet` (`00_scope.md` Table R5-T; log 3). -/
def suggestedGroups : Groups :=
  { base32 := true, base64 := true, atomic32 := true, atomic64 := true, divmul32 := true, divmul64 := true,
    packet := false }

/-- DESIGN CHOICE (log 7). `FRAME_TOP(0)` of the reset launch. -/
def defaultStackTop : Word := 0x8000#64

/-- The parameters of the reset launch: the fixed values of Table R5-T (`00_scope.md` R5) where it has one; where it
has none: LE (log 2), an empty program (log 9), the nine stack frames of call depths 0 to 8 (log 8), no helper and
no platform address (the spec's defaults, `42_jump.md` R271, R273, `45_imm64.md` R351). -/
def defaultParams : Params :=
  { hostEndian := .little
    groups := suggestedGroups
    program := []
    regions := (List.range 9).map fun d => stackFrame (defaultStackTop - BitVec.ofNat 64 (d * 512)) 512
    strictAlignment := true
    strictUnused := true
    fpReadonly := true
    maxCallDepth := some 8
    framePolicy := .linux
    stackFrameSize := 512
    frameTops := []
    stackTop := defaultStackTop
    helpers := []
    btfHelpers := []
    mapByFd := []
    mapByIdx := []
    mapVal := []
    varAddr := []
    codeAddr := [] }

/-- DESIGN CHOICE (log 5, 6, 7). The `ENTRY_REGS` of the reset launch: every register holds a value. R10 is
`FRAME_TOP(0)`, as `10_state.md` R31 recommends; R1 is 0, the address of no context; the others are 0. -/
def defaultEntryRegs (p : Params) : Regs :=
  { r0 := .written 0#64, r1 := .written 0#64, r2 := .written 0#64, r3 := .written 0#64, r4 := .written 0#64
    r5 := .written 0#64, r6 := .written 0#64, r7 := .written 0#64, r8 := .written 0#64, r9 := .written 0#64
    r10 := .written (p.frameTop 0) }

end Sys2Proof.Machine
end

