-- ==== Sys2Proof/Machine/State.lean ====
section
/-!
DEFINITION. The state of one run (`10_state.md` R32), the causes of a fault (`60_exceptions.md` R382), the reasons a
step can stop, and the state at entry, which is this machine's reset (`70_reset_and_hazards.md` R410).
-/

namespace Sys2Proof.Machine

/-- The kind of a memory access (`20_memory.md` R45). -/
inductive AccessKind where
  | read
  | write
  | atomic
deriving DecidableEq, Repr, Inhabited

/-- The eleven faults with their info (`60_exceptions.md` Table R382-T). `raise` records one, with the `pc`, in
`status`: that is the spec's own effect of a fault, a next state. -/
inductive Cause where
  /-- Code 1, R383: a fetch outside the program. -/
  | pcOutOfRange (index : Int)
  /-- Code 2, R385: a fetch at the second slot of a wide instruction. -/
  | jumpIntoWide
  /-- Code 3, R384: an encoding that is no instruction of this runtime. -/
  | illegalInstruction
  /-- Code 4, R386: a read of an unwritten register. -/
  | uninitRegister (r : Reg)
  /-- Code 5, R391: a program-local call at the largest depth. -/
  | callDepthExceeded
  /-- Code 6, R389: a helper id the platform does not have. -/
  | unknownHelper (imm : Word32)
  /-- Code 7, R390: a helper that refuses its arguments. -/
  | helperFault (imm : Word32)
  /-- Code 8, R392: a platform address function not defined at its argument. -/
  | unresolvedAddress
  /-- Code 9, R387: an access of `n` bytes at an address that is no multiple of `n`. -/
  | misaligned (ea : Word) (n : Nat)
  /-- Code 10, R388: an access not admitted by `REGIONS`. -/
  | memFault (ea : Word) (n : Nat) (kind : AccessKind)
  /-- Code 11, R393: a legacy packet instruction. -/
  | unsupported
deriving DecidableEq, Repr

/-- `status` (`10_state.md` R30, `60_exceptions.md` R381). -/
inductive Status where
  | running
  /-- The run ended by `EXIT` at call depth 0 with R0 = `r0`. -/
  | exited (r0 : Word)
  /-- The run ended by a fault: its cause and the slot index of the faulting instruction. -/
  | faulted (cause : Cause) (pc : Int)
deriving DecidableEq, Repr

/-- One saved call frame (`10_state.md` R25): the return slot and, under the `linux` policy, the caller's R6 to R10
(`42_jump.md` R277); `none` under `control_only`, which saves no register (log 21). -/
structure Frame where
  ret : Int
  saved : Option SavedRegs
deriving DecidableEq, Repr

/-- The state of one run (`10_state.md` R32), with the launch parameters (log 1) and the model's own count of oracle
draws (log 14). -/
structure State where
  /-- R0 to R10 (`10_state.md` R20, R22). -/
  regs : Regs
  /-- The slot index of the instruction being executed (`10_state.md` R23). -/
  pc : Int
  /-- The saved call frames, innermost first (`10_state.md` R25). -/
  frames : List Frame
  /-- Data memory (`10_state.md` R28). -/
  mem : Memory
  /-- Platform state that only helpers touch (`10_state.md` R29; log 16). -/
  plat : List Byte
  /-- How the run stands (`10_state.md` R30). -/
  status : Status
  /-- THE MODEL'S OWN: how many draws the run has taken from the oracle (log 14). -/
  draws : Nat
  /-- The launch parameters, constant during the run (`00_scope.md` R5). -/
  params : Params
deriving DecidableEq, Repr

/-- Why a step stops the machine. -/
inductive Fault where
  /-- Raised by `step` alone, in a state that has ended: `Exited` and `Faulted` are terminal, "no step is defined from
  them" (`10_state.md` R30). Safe: the spec has no further state either (log 11). -/
  | runEnded
deriving DecidableEq, Repr

/-- Why a step has no meaning. -/
inductive Refusal where
  /-- Raised by an arm of `exec` whose instruction is not modelled yet; no arm does. Safe. -/
  | notModelled (mnemonic : String)
deriving DecidableEq, Repr

/-- The entry state of a run with the given launch parameters, entry registers and platform state
(`70_reset_and_hazards.md` Table R410-T). -/
def State.entry (p : Params) (entryRegs : Regs) (plat : List Byte) : State :=
  { regs := entryRegs
    pc := 0
    frames := []
    mem := launchMemory p.regions
    plat := plat
    status := .running
    draws := 0
    params := p }

/-- The machine right after reset: the entry state of the reset launch (`70_reset_and_hazards.md` R410; log 2 to 9). -/
def State.reset : State :=
  State.entry defaultParams (defaultEntryRegs defaultParams) []

end Sys2Proof.Machine
end

