-- ==== Sys2Proof/Machine/Operands.lean ====
section
/-!
DEFINITION. Every operand form of the instruction set: the low half of a register, the 32-bit 'imm' in a 32-bit and in
a 64-bit context, the effective address of a memory instruction, the target of a jump, the two halves of a wide
constant.
-/

namespace Sys2Proof.Machine

/-- `x[i][31:0]`: the operand of a 32-bit instruction (`40_alu.md` R100, `42_jump.md` R221). -/
def low32 (v : Word) : Word32 := v.setWidth 32

/-- `zext_64` of a 32-bit result: the upper 32 bits of the destination become zero (`40_alu.md` R101). -/
def zext64 (v : Word32) : Word := v.setWidth 64

/-- `sext_64(imm)`: the 'imm' of a 64-bit operation (`40_alu.md` R100, `42_jump.md` R221, `43_load_store.md` R307). -/
def immSext (imm : Word32) : Word := imm.signExtend 64

/-- `ea`: base register plus the signed 'offset', modulo 2^64 (`20_memory.md` R43). -/
def effectiveAddress (base : Word) (off : Offset) : Word := base + off.signExtend 64

/-- The target of a taken jump: `pc + 1 + delta`, on unbounded integers (`42_jump.md` R220). -/
def jumpTarget (pc : Int) (delta : Int) : Int := pc + 1 + delta

/-- `next_imm ++ imm`: the constant of `LDDW` (`45_imm64.md` R352). -/
def wideConstant (imm nextImm : Word32) : Word := nextImm ++ imm

/-- The address of a byte of a map's value area: the area's address plus the signed 'next_imm', modulo 2^64
(`45_imm64.md` R354). -/
def mapValueAddress (area : Word) (nextImm : Word32) : Word := area + nextImm.signExtend 64

end Sys2Proof.Machine
end

