-- ==== Sys2Proof/Machine/Ops.lean ====
section
/-!
DEFINITION. The named operations every meaning is built from: raising a fault, reading and writing registers, moving
the program counter, the memory primitives of `20_memory.md` R53 to R55, the call frames of `42_jump.md` R277.
Taking an exception is `raise`. There is no return from one: "No such instruction exists" (`60_exceptions.md` R398).
-/

namespace Sys2Proof.Machine

/-- What one instruction answers. -/
abbrev Out := Host.Outcome State Fault Refusal

/-- TAKING A FAULT (`60_exceptions.md` R381): "the step from the current state is `status <- Faulted(code(F), pc, info)`
and nothing else". The one operation every fault goes through. -/
def raise (s : State) (c : Cause) : Out :=
  .next { s with status := .faulted c s.pc }

/-- The numeric code of a fault (`60_exceptions.md` Table R382-T). -/
def Cause.code : Cause → Nat
  | .pcOutOfRange _ => 1
  | .jumpIntoWide => 2
  | .illegalInstruction => 3
  | .uninitRegister _ => 4
  | .callDepthExceeded => 5
  | .unknownHelper _ => 6
  | .helperFault _ => 7
  | .unresolvedAddress => 8
  | .misaligned _ _ => 9
  | .memFault _ _ _ => 10
  | .unsupported => 11

/-! ### Registers and the program counter -/

/-- `x[i]`: the cell of register `i`. -/
def State.reg (s : State) (r : Reg) : Cell := s.regs.get r

/-- `x[i] <- v`. -/
def State.setReg (s : State) (r : Reg) (v : Word) : State :=
  { s with regs := s.regs.set r (.written v) }

/-- Read a register and go on with its value; an unwritten one raises `UninitRegister` (`10_state.md` R22). -/
def withReg (s : State) (r : Reg) (k : Word → Out) : Out :=
  match s.reg r with
  | .written v => k v
  | .unwritten => raise s (.uninitRegister r)

/-- The end of an instruction that does not transfer control: `pc <- pc + n`, `n` its slots (`10_state.md` R23). -/
def State.advance (s : State) (n : Int) : State := { s with pc := s.pc + n }

/-- `pc <- t`. -/
def State.jumpTo (s : State) (t : Int) : State := { s with pc := t }

/-- Write a destination register and go to the next slot: how every basic instruction with a register result ends. -/
def State.finish (s : State) (r : Reg) (v : Word) : State := (s.setReg r v).advance 1

/-! ### Memory: admission (`20_memory.md` R45) -/

/-- All of the `n` bytes at `a` lie in the region. -/
def Region.covers (r : Region) (a n : Nat) : Bool :=
  decide (r.base.toNat ≤ a) && decide (a + n ≤ r.base.toNat + r.len)

/-- The region has the right the access kind needs. -/
def Region.allows (r : Region) : AccessKind → Bool
  | .read => r.readable
  | .write => r.writable
  | .atomic => r.readable && r.writable

/-- An access is admitted when one region contains all its bytes and has the right, and it does not pass 2^64
(`20_memory.md` R43, R45). -/
def State.admits (s : State) (a n : Nat) (kind : AccessKind) : Bool :=
  decide (a + n ≤ 2 ^ 64) && s.params.regions.any fun r => r.covers a n && r.allows kind

/-- The fault of `n` single-byte accesses in ascending address order, each admitted separately: the first byte that is
not admitted (`20_memory.md` R44). DEDUCED (log 19): its info is that byte's address and length 1. -/
def State.byteFault (s : State) (kind : AccessKind) : Nat → Nat → Option Cause
  | _, 0 => none
  | a, n + 1 =>
    if s.admits a 1 kind then s.byteFault kind (a + 1) n
    else some (.memFault (BitVec.ofNat 64 a) 1 kind)

/-- The fault of a plain access of `n` bytes, if any: alignment first, then admission (`20_memory.md` R44, R53, R54,
`60_exceptions.md` R394). -/
def State.plainFault (s : State) (ea : Word) (n : Nat) (kind : AccessKind) : Option Cause :=
  if ea.toNat % n = 0 then
    if s.admits ea.toNat n kind then none else some (.memFault ea n kind)
  else if s.params.strictAlignment then some (.misaligned ea n)
  else s.byteFault kind ea.toNat n

/-- The fault of an atomic access of `n` bytes, if any: natural alignment whatever `STRICT_ALIGNMENT` is, then a region
that is readable and writable (`20_memory.md` R44, R55). -/
def State.atomicFault (s : State) (ea : Word) (n : Nat) : Option Cause :=
  if ea.toNat % n = 0 then
    if s.admits ea.toNat n .atomic then none else some (.memFault ea n .atomic)
  else some (.misaligned ea n)

/-! ### Memory: the bytes -/

/-- The byte belongs to a `shared` region (`10_state.md` R29). -/
def State.isShared (s : State) (a : Nat) : Bool :=
  s.params.regions.any fun r => decide (r.sharing = .shared) && r.covers a 1

/-- The byte a read supplies at address `a` as its `k`-th byte (`20_memory.md` R53 step 3): of a shared region, the
oracle's next; else the byte last written, else the launch byte of the address. -/
def State.byteAt (s : State) (k a : Nat) : Byte :=
  if s.isShared a then Config.sharedByte (s.draws + k)
  else (s.mem.get a).getD (Config.launchByte a)

/-- The bytes a read of `n` bytes supplies, the `k`-th draw first, in ascending address order. -/
def State.bytesAt (s : State) : Nat → Nat → Nat → List Byte
  | _, _, 0 => []
  | k, a, n + 1 => s.byteAt k a :: s.bytesAt (k + 1) (a + 1) n

/-- The value of a read of `n` bytes at `ea`, zero-extended (`20_memory.md` R53 steps 3 and 4). -/
def State.valueAt (s : State) (ea : Word) (n : Nat) : Word :=
  loadedValue s.params.hostEndian (s.bytesAt 0 ea.toNat n)

/-- The state after a read of `n` bytes: the model's own count of draws moves on and nothing else (log 14). -/
def State.drawn (s : State) (n : Nat) : State := { s with draws := s.draws + n }

/-- The state with the low `n` bytes of a value stored at `ea` (`20_memory.md` R54 step 3). -/
def State.stored (s : State) (ea : Word) (n : Nat) (v : Word) : State :=
  { s with mem := s.mem.setBytes ea.toNat (storedBytes s.params.hostEndian n v) }

/-! ### Memory: the primitives -/

/-- `MemRead(ea, n)` (`20_memory.md` R53): the fault, or go on with the value and the state after the read. -/
def memRead (s : State) (ea : Word) (n : Nat) (k : Word → State → Out) : Out :=
  match s.plainFault ea n .read with
  | some c => raise s c
  | none => k (s.valueAt ea n) (s.drawn n)

/-- `MemWrite(ea, n, v)` (`20_memory.md` R54): the fault, or go on with the state after the write. -/
def memWrite (s : State) (ea : Word) (n : Nat) (v : Word) (k : State → Out) : Out :=
  match s.plainFault ea n .write with
  | some c => raise s c
  | none => k (s.stored ea n v)

/-- `AtomicRMW(ea, n, f)` (`20_memory.md` R55): the fault, or one indivisible read and write; go on with the old value
and the state after. -/
def atomicRMW (s : State) (ea : Word) (n : Nat) (f : Word → Word) (k : Word → State → Out) : Out :=
  match s.atomicFault ea n with
  | some c => raise s c
  | none => k (s.valueAt ea n) ((s.drawn n).stored ea n (f (s.valueAt ea n)))

/-! ### Call frames (`42_jump.md` R277, R279) -/

/-- The call depth has reached `MAX_CALL_DEPTH` (`42_jump.md` R272, R279). -/
def State.atMaxDepth (s : State) : Bool :=
  match s.params.maxCallDepth with
  | none => false
  | some limit => decide (s.frames.length ≥ limit)

/-- `push_frame(ret)` (`42_jump.md` R277). -/
def State.pushFrame (s : State) (ret : Int) : State :=
  match s.params.framePolicy with
  | .linux =>
    { s with
      frames := { ret := ret, saved := some s.regs.saved } :: s.frames
      regs := s.regs.enterCallee (s.params.frameTop (s.frames.length + 1)) }
  | .controlOnly => { s with frames := { ret := ret, saved := none } :: s.frames }

/-- `pop_frame()` and `restore` for a frame at the head of `frames` (`42_jump.md` R277): the frame says what it saved
(log 21). -/
def State.popFrame (s : State) (f : Frame) (rest : List Frame) : State :=
  match f.saved with
  | some sv => { s with frames := rest, regs := s.regs.leaveCallee sv }
  | none => { s with frames := rest }

end Sys2Proof.Machine
end

