-- ==== Sys2Proof/Machine/Arith.lean ====
section
/-!
DEFINITION. The value functions of the arithmetic instructions that are more than one bit-vector operator, for a width
`w` of 32 or 64 ("otherwise identical operations", `40_alu.md` R100). Operands become integers, the result is exact,
and one conversion narrows it at the end.
-/

namespace Sys2Proof.Machine

/-- `DIV`: unsigned; 0 where the divisor is 0 (`40_alu.md` R103, R104). -/
def divUnsigned {w : Nat} (a b : BitVec w) : BitVec w :=
  if b = 0#w then 0#w else BitVec.ofNat w (a.toNat / b.toNat)

/-- `SDIV`: signed, the quotient rounded toward zero; 0 where the divisor is 0; the one quotient that does not fit wraps
(`40_alu.md` R103, R104, R105). -/
def divSigned {w : Nat} (a b : BitVec w) : BitVec w :=
  if b = 0#w then 0#w else BitVec.ofInt w (a.toInt.tdiv b.toInt)

/-- `MOD`: unsigned; the dividend where the divisor is 0 (`40_alu.md` R103, R104). -/
def modUnsigned {w : Nat} (a b : BitVec w) : BitVec w :=
  if b = 0#w then a else BitVec.ofNat w (a.toNat % b.toNat)

/-- `SMOD`: `a - n * trunc(a / n)` on signed integers; the dividend where the divisor is 0 (`40_alu.md` R103, R104). -/
def modSigned {w : Nat} (a b : BitVec w) : BitVec w :=
  if b = 0#w then a else BitVec.ofInt w (a.toInt - b.toInt * a.toInt.tdiv b.toInt)

/-- The shift amount: the source operand under the mask 63 or 31 (`40_alu.md` R106). -/
def shiftAmount {w : Nat} (b : BitVec w) : Nat := (b &&& BitVec.ofNat w (w - 1)).toNat

/-- `LSH`: left, filling with zeros (`40_alu.md` R106). -/
def shiftLeft {w : Nat} (a b : BitVec w) : BitVec w := a <<< shiftAmount b

/-- `RSH`: right, filling with zeros (`40_alu.md` R106). -/
def shiftRight {w : Nat} (a b : BitVec w) : BitVec w := a >>> shiftAmount b

/-- `ARSH`: right, filling with copies of bit `w - 1` of the operand (`40_alu.md` R106). -/
def shiftArithmetic {w : Nat} (a b : BitVec w) : BitVec w := a.sshiftRight (shiftAmount b)

/-- The low `n` bits sign-extended to the operand's width (`00_scope.md` R9, `40_alu.md` R107). -/
def signExtendLow {w : Nat} (n : Nat) (b : BitVec w) : BitVec w := (b.setWidth n).signExtend w

end Sys2Proof.Machine
end

