-- ==== Sys2Proof/Machine/Alu.lean ====
section
/-!
DEFINITION. The arithmetic instructions (`40_alu.md`, `40_alu_2.md`): one meaning per instruction over six shared
forms. Class ALU works on the low 32 bits and zero-extends its result; class ALU64 works on all 64 (`40_alu.md` R100,
R101). The destination is read before the source (`60_exceptions.md` R394).
-/

namespace Sys2Proof.Machine

/-- Class ALU, K form: `x[dst] <- zext_64(f(x[dst][31:0], imm))` (`40_alu.md` R100, R101). -/
def binary32K (s : State) (dst : Reg) (imm : Word32) (f : Word32 → Word32 → Word32) : Out :=
  withReg s dst fun a => .next (s.finish dst (zext64 (f (low32 a) imm)))

/-- Class ALU, X form: `x[dst] <- zext_64(f(x[dst][31:0], x[src][31:0]))` (`40_alu.md` R100, R101). -/
def binary32X (s : State) (dst src : Reg) (f : Word32 → Word32 → Word32) : Out :=
  withReg s dst fun a => withReg s src fun b => .next (s.finish dst (zext64 (f (low32 a) (low32 b))))

/-- Class ALU64, K form: `x[dst] <- f(x[dst], sext_64(imm))` (`40_alu.md` R100, R101). -/
def binary64K (s : State) (dst : Reg) (imm : Word32) (f : Word → Word → Word) : Out :=
  withReg s dst fun a => .next (s.finish dst (f a (immSext imm)))

/-- Class ALU64, X form: `x[dst] <- f(x[dst], x[src])` (`40_alu.md` R100, R101). -/
def binary64X (s : State) (dst src : Reg) (f : Word → Word → Word) : Out :=
  withReg s dst fun a => withReg s src fun b => .next (s.finish dst (f a b))

/-- Class ALU, one operand (`40_alu.md` R108). -/
def unary32 (s : State) (dst : Reg) (f : Word32 → Word32) : Out :=
  withReg s dst fun a => .next (s.finish dst (zext64 (f (low32 a))))

/-- Class ALU64, one operand (`40_alu.md` R108). -/
def unary64 (s : State) (dst : Reg) (f : Word → Word) : Out :=
  withReg s dst fun a => .next (s.finish dst (f a))

/-- `MOV`, class ALU, K form: the destination is not read (`40_alu.md` R100). -/
def move32K (s : State) (dst : Reg) (imm : Word32) : Out :=
  .next (s.finish dst (zext64 imm))

/-- `MOV`, class ALU, X form. -/
def move32X (s : State) (dst src : Reg) : Out :=
  withReg s src fun b => .next (s.finish dst (zext64 (low32 b)))

/-- `MOV`, class ALU64, K form. -/
def move64K (s : State) (dst : Reg) (imm : Word32) : Out :=
  .next (s.finish dst (immSext imm))

/-- `MOV`, class ALU64, X form. -/
def move64X (s : State) (dst src : Reg) : Out :=
  withReg s src fun b => .next (s.finish dst b)

/-- `MOVSX`, class ALU: the low `n` bits sign-extended to 32, the upper half zero (`40_alu.md` R107). -/
def moveSigned32 (s : State) (dst src : Reg) (n : Nat) : Out :=
  withReg s src fun b => .next (s.finish dst (zext64 (signExtendLow n (low32 b))))

/-- `MOVSX`, class ALU64: the low `n` bits sign-extended to 64 (`40_alu.md` R107). -/
def moveSigned64 (s : State) (dst src : Reg) (n : Nat) : Out :=
  withReg s src fun b => .next (s.finish dst (signExtendLow n b))

/-- `ADD32_K` (`40_alu.md` R110). -/
def execAdd32K (dst : Reg) (imm : Word32) (s : State) : Out :=
  binary32K s dst imm fun a b => a + b

/-- `ADD32_X` (`40_alu.md` R111). -/
def execAdd32X (dst src : Reg) (s : State) : Out :=
  binary32X s dst src fun a b => a + b

/-- `ADD64_K` (`40_alu.md` R112). -/
def execAdd64K (dst : Reg) (imm : Word32) (s : State) : Out :=
  binary64K s dst imm fun a b => a + b

/-- `ADD64_X` (`40_alu.md` R113). -/
def execAdd64X (dst src : Reg) (s : State) : Out :=
  binary64X s dst src fun a b => a + b

/-- `SUB32_K` (`40_alu.md` R114). -/
def execSub32K (dst : Reg) (imm : Word32) (s : State) : Out :=
  binary32K s dst imm fun a b => a - b

/-- `SUB32_X` (`40_alu.md` R115). -/
def execSub32X (dst src : Reg) (s : State) : Out :=
  binary32X s dst src fun a b => a - b

/-- `SUB64_K` (`40_alu.md` R116). -/
def execSub64K (dst : Reg) (imm : Word32) (s : State) : Out :=
  binary64K s dst imm fun a b => a - b

/-- `SUB64_X` (`40_alu.md` R117). -/
def execSub64X (dst src : Reg) (s : State) : Out :=
  binary64X s dst src fun a b => a - b

/-- `MUL32_K` (`40_alu.md` R118). -/
def execMul32K (dst : Reg) (imm : Word32) (s : State) : Out :=
  binary32K s dst imm fun a b => a * b

/-- `MUL32_X` (`40_alu.md` R119). -/
def execMul32X (dst src : Reg) (s : State) : Out :=
  binary32X s dst src fun a b => a * b

/-- `MUL64_K` (`40_alu.md` R120). -/
def execMul64K (dst : Reg) (imm : Word32) (s : State) : Out :=
  binary64K s dst imm fun a b => a * b

/-- `MUL64_X` (`40_alu.md` R121). -/
def execMul64X (dst src : Reg) (s : State) : Out :=
  binary64X s dst src fun a b => a * b

/-- `DIV32_K` (`40_alu.md` R122). -/
def execDiv32K (dst : Reg) (imm : Word32) (s : State) : Out :=
  binary32K s dst imm divUnsigned

/-- `DIV32_X` (`40_alu.md` R123). -/
def execDiv32X (dst src : Reg) (s : State) : Out :=
  binary32X s dst src divUnsigned

/-- `DIV64_K` (`40_alu.md` R124). -/
def execDiv64K (dst : Reg) (imm : Word32) (s : State) : Out :=
  binary64K s dst imm divUnsigned

/-- `DIV64_X` (`40_alu.md` R125). -/
def execDiv64X (dst src : Reg) (s : State) : Out :=
  binary64X s dst src divUnsigned

/-- `SDIV32_K` (`40_alu.md` R126). -/
def execSdiv32K (dst : Reg) (imm : Word32) (s : State) : Out :=
  binary32K s dst imm divSigned

/-- `SDIV32_X` (`40_alu.md` R127). -/
def execSdiv32X (dst src : Reg) (s : State) : Out :=
  binary32X s dst src divSigned

/-- `SDIV64_K` (`40_alu.md` R128). -/
def execSdiv64K (dst : Reg) (imm : Word32) (s : State) : Out :=
  binary64K s dst imm divSigned

/-- `SDIV64_X` (`40_alu.md` R129). -/
def execSdiv64X (dst src : Reg) (s : State) : Out :=
  binary64X s dst src divSigned

/-- `OR32_K` (`40_alu.md` R130). -/
def execOr32K (dst : Reg) (imm : Word32) (s : State) : Out :=
  binary32K s dst imm fun a b => a ||| b

/-- `OR32_X` (`40_alu.md` R131). -/
def execOr32X (dst src : Reg) (s : State) : Out :=
  binary32X s dst src fun a b => a ||| b

/-- `OR64_K` (`40_alu.md` R132). -/
def execOr64K (dst : Reg) (imm : Word32) (s : State) : Out :=
  binary64K s dst imm fun a b => a ||| b

/-- `OR64_X` (`40_alu.md` R133). -/
def execOr64X (dst src : Reg) (s : State) : Out :=
  binary64X s dst src fun a b => a ||| b

/-- `AND32_K` (`40_alu.md` R134). -/
def execAnd32K (dst : Reg) (imm : Word32) (s : State) : Out :=
  binary32K s dst imm fun a b => a &&& b

/-- `AND32_X` (`40_alu.md` R135). -/
def execAnd32X (dst src : Reg) (s : State) : Out :=
  binary32X s dst src fun a b => a &&& b

/-- `AND64_K` (`40_alu.md` R136). -/
def execAnd64K (dst : Reg) (imm : Word32) (s : State) : Out :=
  binary64K s dst imm fun a b => a &&& b

/-- `AND64_X` (`40_alu.md` R137). -/
def execAnd64X (dst src : Reg) (s : State) : Out :=
  binary64X s dst src fun a b => a &&& b

/-- `LSH32_K` (`40_alu.md` R138). -/
def execLsh32K (dst : Reg) (imm : Word32) (s : State) : Out :=
  binary32K s dst imm shiftLeft

/-- `LSH32_X` (`40_alu.md` R139). -/
def execLsh32X (dst src : Reg) (s : State) : Out :=
  binary32X s dst src shiftLeft

/-- `LSH64_K` (`40_alu.md` R140). -/
def execLsh64K (dst : Reg) (imm : Word32) (s : State) : Out :=
  binary64K s dst imm shiftLeft

/-- `LSH64_X` (`40_alu.md` R141). -/
def execLsh64X (dst src : Reg) (s : State) : Out :=
  binary64X s dst src shiftLeft

/-- `RSH32_K` (`40_alu.md` R142). -/
def execRsh32K (dst : Reg) (imm : Word32) (s : State) : Out :=
  binary32K s dst imm shiftRight

/-- `RSH32_X` (`40_alu.md` R143). -/
def execRsh32X (dst src : Reg) (s : State) : Out :=
  binary32X s dst src shiftRight

/-- `RSH64_K` (`40_alu.md` R144). -/
def execRsh64K (dst : Reg) (imm : Word32) (s : State) : Out :=
  binary64K s dst imm shiftRight

/-- `RSH64_X` (`40_alu.md` R145). -/
def execRsh64X (dst src : Reg) (s : State) : Out :=
  binary64X s dst src shiftRight

/-- `NEG32` (`40_alu_2.md` R146). -/
def execNeg32 (dst : Reg) (s : State) : Out :=
  unary32 s dst fun a => -a

/-- `NEG64` (`40_alu_2.md` R147). -/
def execNeg64 (dst : Reg) (s : State) : Out :=
  unary64 s dst fun a => -a

/-- `MOD32_K` (`40_alu_2.md` R148). -/
def execMod32K (dst : Reg) (imm : Word32) (s : State) : Out :=
  binary32K s dst imm modUnsigned

/-- `MOD32_X` (`40_alu_2.md` R149). -/
def execMod32X (dst src : Reg) (s : State) : Out :=
  binary32X s dst src modUnsigned

/-- `MOD64_K` (`40_alu_2.md` R150). -/
def execMod64K (dst : Reg) (imm : Word32) (s : State) : Out :=
  binary64K s dst imm modUnsigned

/-- `MOD64_X` (`40_alu_2.md` R151). -/
def execMod64X (dst src : Reg) (s : State) : Out :=
  binary64X s dst src modUnsigned

/-- `SMOD32_K` (`40_alu_2.md` R152). -/
def execSmod32K (dst : Reg) (imm : Word32) (s : State) : Out :=
  binary32K s dst imm modSigned

/-- `SMOD32_X` (`40_alu_2.md` R153). -/
def execSmod32X (dst src : Reg) (s : State) : Out :=
  binary32X s dst src modSigned

/-- `SMOD64_K` (`40_alu_2.md` R154). -/
def execSmod64K (dst : Reg) (imm : Word32) (s : State) : Out :=
  binary64K s dst imm modSigned

/-- `SMOD64_X` (`40_alu_2.md` R155). -/
def execSmod64X (dst src : Reg) (s : State) : Out :=
  binary64X s dst src modSigned

/-- `XOR32_K` (`40_alu_2.md` R156). -/
def execXor32K (dst : Reg) (imm : Word32) (s : State) : Out :=
  binary32K s dst imm fun a b => a ^^^ b

/-- `XOR32_X` (`40_alu_2.md` R157). -/
def execXor32X (dst src : Reg) (s : State) : Out :=
  binary32X s dst src fun a b => a ^^^ b

/-- `XOR64_K` (`40_alu_2.md` R158). -/
def execXor64K (dst : Reg) (imm : Word32) (s : State) : Out :=
  binary64K s dst imm fun a b => a ^^^ b

/-- `XOR64_X` (`40_alu_2.md` R159). -/
def execXor64X (dst src : Reg) (s : State) : Out :=
  binary64X s dst src fun a b => a ^^^ b

/-- `MOV32_K` (`40_alu_2.md` R160). -/
def execMov32K (dst : Reg) (imm : Word32) (s : State) : Out :=
  move32K s dst imm

/-- `MOV32_X` (`40_alu_2.md` R161). -/
def execMov32X (dst src : Reg) (s : State) : Out :=
  move32X s dst src

/-- `MOV64_K` (`40_alu_2.md` R162). -/
def execMov64K (dst : Reg) (imm : Word32) (s : State) : Out :=
  move64K s dst imm

/-- `MOV64_X` (`40_alu_2.md` R163). -/
def execMov64X (dst src : Reg) (s : State) : Out :=
  move64X s dst src

/-- `MOVSX32_8` (`40_alu_2.md` R164). -/
def execMovsx32From8 (dst src : Reg) (s : State) : Out :=
  moveSigned32 s dst src 8

/-- `MOVSX32_16` (`40_alu_2.md` R165). -/
def execMovsx32From16 (dst src : Reg) (s : State) : Out :=
  moveSigned32 s dst src 16

/-- `MOVSX64_8` (`40_alu_2.md` R166). -/
def execMovsx64From8 (dst src : Reg) (s : State) : Out :=
  moveSigned64 s dst src 8

/-- `MOVSX64_16` (`40_alu_2.md` R167). -/
def execMovsx64From16 (dst src : Reg) (s : State) : Out :=
  moveSigned64 s dst src 16

/-- `MOVSX64_32` (`40_alu_2.md` R168). -/
def execMovsx64From32 (dst src : Reg) (s : State) : Out :=
  moveSigned64 s dst src 32

/-- `ARSH32_K` (`40_alu_2.md` R169). -/
def execArsh32K (dst : Reg) (imm : Word32) (s : State) : Out :=
  binary32K s dst imm shiftArithmetic

/-- `ARSH32_X` (`40_alu_2.md` R170). -/
def execArsh32X (dst src : Reg) (s : State) : Out :=
  binary32X s dst src shiftArithmetic

/-- `ARSH64_K` (`40_alu_2.md` R171). -/
def execArsh64K (dst : Reg) (imm : Word32) (s : State) : Out :=
  binary64K s dst imm shiftArithmetic

/-- `ARSH64_X` (`40_alu_2.md` R172). -/
def execArsh64X (dst src : Reg) (s : State) : Out :=
  binary64X s dst src shiftArithmetic

end Sys2Proof.Machine
end

