-- ==== Sys2Proof/Machine/Atomic.lean ====
section
/-!
DEFINITION. The atomic operations (`44_atomic.md`): each is one `AtomicRMW` of 4 or 8 bytes at `x[dst] + off` (R321).
All registers are read before the access, and the register write comes after it (R345, R347).
-/

namespace Sys2Proof.Machine

/-- A 32-bit simple operation without FETCH: memory becomes `f(old, x[src][31:0])`, no register is written
(`44_atomic.md` R321, R322). -/
def atomic32 (s : State) (dst src : Reg) (off : Offset) (f : Word32 → Word32 → Word32) : Out :=
  withReg s dst fun base => withReg s src fun v =>
    atomicRMW s (effectiveAddress base off) 4 (fun old => zext64 (f (low32 old) (low32 v))) fun _ t =>
      .next (t.advance 1)

/-- A 32-bit operation with FETCH: as above, and `x[src] <- zext_64(old)` (`44_atomic.md` R323). -/
def atomicFetch32 (s : State) (dst src : Reg) (off : Offset) (f : Word32 → Word32 → Word32) : Out :=
  withReg s dst fun base => withReg s src fun v =>
    atomicRMW s (effectiveAddress base off) 4 (fun old => zext64 (f (low32 old) (low32 v))) fun old t =>
      .next (t.finish src (zext64 (low32 old)))

/-- A 64-bit simple operation without FETCH (`44_atomic.md` R321, R322). -/
def atomic64 (s : State) (dst src : Reg) (off : Offset) (f : Word → Word → Word) : Out :=
  withReg s dst fun base => withReg s src fun v =>
    atomicRMW s (effectiveAddress base off) 8 (fun old => f old v) fun _ t => .next (t.advance 1)

/-- A 64-bit operation with FETCH: as above, and `x[src] <- old` (`44_atomic.md` R323). -/
def atomicFetch64 (s : State) (dst src : Reg) (off : Offset) (f : Word → Word → Word) : Out :=
  withReg s dst fun base => withReg s src fun v =>
    atomicRMW s (effectiveAddress base off) 8 (fun old => f old v) fun old t => .next (t.finish src old)

/-- The 32-bit compare and exchange (`44_atomic.md` R324): the low 32 bits of R0 are compared; R0 receives the old value
zero-extended in either case and `x[src]` is left alone. -/
def compareExchange32 (s : State) (dst src : Reg) (off : Offset) : Out :=
  withReg s dst fun base => withReg s src fun v => withReg s .r0 fun c =>
    atomicRMW s (effectiveAddress base off) 4
      (fun old => zext64 (if low32 old = low32 c then low32 v else low32 old)) fun old t =>
        .next (t.finish .r0 (zext64 (low32 old)))

/-- The 64-bit compare and exchange (`44_atomic.md` R324). -/
def compareExchange64 (s : State) (dst src : Reg) (off : Offset) : Out :=
  withReg s dst fun base => withReg s src fun v => withReg s .r0 fun c =>
    atomicRMW s (effectiveAddress base off) 8 (fun old => if old = c then v else old) fun old t =>
      .next (t.finish .r0 old)

/-- `AADD32` (`44_atomic.md` R325). -/
def execAadd32 (dst src : Reg) (off : Offset) (s : State) : Out :=
  atomic32 s dst src off fun old v => old + v

/-- `AADD32_FETCH` (`44_atomic.md` R326). -/
def execAadd32Fetch (dst src : Reg) (off : Offset) (s : State) : Out :=
  atomicFetch32 s dst src off fun old v => old + v

/-- `AOR32` (`44_atomic.md` R327). -/
def execAor32 (dst src : Reg) (off : Offset) (s : State) : Out :=
  atomic32 s dst src off fun old v => old ||| v

/-- `AOR32_FETCH` (`44_atomic.md` R328). -/
def execAor32Fetch (dst src : Reg) (off : Offset) (s : State) : Out :=
  atomicFetch32 s dst src off fun old v => old ||| v

/-- `AAND32` (`44_atomic.md` R329). -/
def execAand32 (dst src : Reg) (off : Offset) (s : State) : Out :=
  atomic32 s dst src off fun old v => old &&& v

/-- `AAND32_FETCH` (`44_atomic.md` R330). -/
def execAand32Fetch (dst src : Reg) (off : Offset) (s : State) : Out :=
  atomicFetch32 s dst src off fun old v => old &&& v

/-- `AXOR32` (`44_atomic.md` R331). -/
def execAxor32 (dst src : Reg) (off : Offset) (s : State) : Out :=
  atomic32 s dst src off fun old v => old ^^^ v

/-- `AXOR32_FETCH` (`44_atomic.md` R332). -/
def execAxor32Fetch (dst src : Reg) (off : Offset) (s : State) : Out :=
  atomicFetch32 s dst src off fun old v => old ^^^ v

/-- `AXCHG32` (`44_atomic.md` R333). -/
def execAxchg32 (dst src : Reg) (off : Offset) (s : State) : Out :=
  atomicFetch32 s dst src off fun _ v => v

/-- `ACMPXCHG32` (`44_atomic.md` R334). -/
def execAcmpxchg32 (dst src : Reg) (off : Offset) (s : State) : Out :=
  compareExchange32 s dst src off

/-- `AADD64` (`44_atomic.md` R335). -/
def execAadd64 (dst src : Reg) (off : Offset) (s : State) : Out :=
  atomic64 s dst src off fun old v => old + v

/-- `AADD64_FETCH` (`44_atomic.md` R336). -/
def execAadd64Fetch (dst src : Reg) (off : Offset) (s : State) : Out :=
  atomicFetch64 s dst src off fun old v => old + v

/-- `AOR64` (`44_atomic.md` R337). -/
def execAor64 (dst src : Reg) (off : Offset) (s : State) : Out :=
  atomic64 s dst src off fun old v => old ||| v

/-- `AOR64_FETCH` (`44_atomic.md` R338). -/
def execAor64Fetch (dst src : Reg) (off : Offset) (s : State) : Out :=
  atomicFetch64 s dst src off fun old v => old ||| v

/-- `AAND64` (`44_atomic.md` R339). -/
def execAand64 (dst src : Reg) (off : Offset) (s : State) : Out :=
  atomic64 s dst src off fun old v => old &&& v

/-- `AAND64_FETCH` (`44_atomic.md` R340). -/
def execAand64Fetch (dst src : Reg) (off : Offset) (s : State) : Out :=
  atomicFetch64 s dst src off fun old v => old &&& v

/-- `AXOR64` (`44_atomic.md` R341). -/
def execAxor64 (dst src : Reg) (off : Offset) (s : State) : Out :=
  atomic64 s dst src off fun old v => old ^^^ v

/-- `AXOR64_FETCH` (`44_atomic.md` R342). -/
def execAxor64Fetch (dst src : Reg) (off : Offset) (s : State) : Out :=
  atomicFetch64 s dst src off fun old v => old ^^^ v

/-- `AXCHG64` (`44_atomic.md` R343). -/
def execAxchg64 (dst src : Reg) (off : Offset) (s : State) : Out :=
  atomicFetch64 s dst src off fun _ v => v

/-- `ACMPXCHG64` (`44_atomic.md` R344). -/
def execAcmpxchg64 (dst src : Reg) (off : Offset) (s : State) : Out :=
  compareExchange64 s dst src off

end Sys2Proof.Machine
end

