-- ==== Sys2Proof/Machine/ByteSwap.lean ====
section
/-!
DEFINITION. The byte swap instructions (`41_byteswap.md`): the destination register only; the result is zero-extended
(R201), and `LE` and `BE` depend on the byte order of the host (R202).
-/

namespace Sys2Proof.Machine

/-- `x[dst] <- f(x[dst])` (`41_byteswap.md` R200, R201). -/
def swapBytes (s : State) (dst : Reg) (f : Word → Word) : Out :=
  withReg s dst fun a => .next (s.finish dst (f a))

/-- `LE16` (`41_byteswap.md` R203). -/
def execLe16 (dst : Reg) (s : State) : Out :=
  swapBytes s dst (toLittle s.params.hostEndian 2)

/-- `LE32` (`41_byteswap.md` R204). -/
def execLe32 (dst : Reg) (s : State) : Out :=
  swapBytes s dst (toLittle s.params.hostEndian 4)

/-- `LE64` (`41_byteswap.md` R205). -/
def execLe64 (dst : Reg) (s : State) : Out :=
  swapBytes s dst (toLittle s.params.hostEndian 8)

/-- `BE16` (`41_byteswap.md` R206). -/
def execBe16 (dst : Reg) (s : State) : Out :=
  swapBytes s dst (toBig s.params.hostEndian 2)

/-- `BE32` (`41_byteswap.md` R207). -/
def execBe32 (dst : Reg) (s : State) : Out :=
  swapBytes s dst (toBig s.params.hostEndian 4)

/-- `BE64` (`41_byteswap.md` R208). -/
def execBe64 (dst : Reg) (s : State) : Out :=
  swapBytes s dst (toBig s.params.hostEndian 8)

/-- `BSWAP16` (`41_byteswap.md` R209). -/
def execBswap16 (dst : Reg) (s : State) : Out :=
  swapBytes s dst (reverseBytes 2)

/-- `BSWAP32` (`41_byteswap.md` R210). -/
def execBswap32 (dst : Reg) (s : State) : Out :=
  swapBytes s dst (reverseBytes 4)

/-- `BSWAP64` (`41_byteswap.md` R211). -/
def execBswap64 (dst : Reg) (s : State) : Out :=
  swapBytes s dst (reverseBytes 8)

end Sys2Proof.Machine
end

