-- ==== Sys2Proof/Machine/Imm64.lean ====
section
/-!
DEFINITION. The 64-bit immediate instructions (`45_imm64.md`): the destination is written and not read, and the next
instruction is two slots on (R350). The five platform functions are launch parameters (R351, log 17).
-/

namespace Sys2Proof.Machine

/-- Write the destination and step over both slots (`45_imm64.md` R350). -/
def loadWide (s : State) (dst : Reg) (v : Word) : Out :=
  .next ((s.setReg dst v).advance 2)

/-- Write an address the platform gives; where it gives none, `UnresolvedAddress` (`45_imm64.md` R351). -/
def loadAddress (s : State) (dst : Reg) (address : Option Word) : Out :=
  match address with
  | some v => loadWide s dst v
  | none => raise s .unresolvedAddress

/-- `MAP_VAL(map) + s(next_imm)`, where both the map and its value area are defined (`45_imm64.md` R354, R358). -/
def mapValue (s : State) (map : Option Word) (nextImm : Word32) : Option Word :=
  match map with
  | none => none
  | some address =>
    match lookup s.params.mapVal address with
    | none => none
    | some area => some (mapValueAddress area nextImm)

/-- `LDDW` (`45_imm64.md` R352). -/
def execLddw (dst : Reg) (imm nextImm : Word32) (s : State) : Out :=
  loadWide s dst (wideConstant imm nextImm)

/-- `LD_MAP_FD` (`45_imm64.md` R353). -/
def execLdMapFd (dst : Reg) (imm : Word32) (s : State) : Out :=
  loadAddress s dst (lookup s.params.mapByFd imm)

/-- `LD_MAP_VAL_FD` (`45_imm64.md` R354). -/
def execLdMapValFd (dst : Reg) (imm nextImm : Word32) (s : State) : Out :=
  loadAddress s dst (mapValue s (lookup s.params.mapByFd imm) nextImm)

/-- `LD_VAR_ADDR` (`45_imm64.md` R355). -/
def execLdVarAddr (dst : Reg) (imm : Word32) (s : State) : Out :=
  loadAddress s dst (lookup s.params.varAddr imm)

/-- `LD_CODE_ADDR` (`45_imm64.md` R356). -/
def execLdCodeAddr (dst : Reg) (imm : Word32) (s : State) : Out :=
  loadAddress s dst (lookup s.params.codeAddr (s.pc, imm))

/-- `LD_MAP_IDX` (`45_imm64.md` R357). -/
def execLdMapIdx (dst : Reg) (imm : Word32) (s : State) : Out :=
  loadAddress s dst (lookup s.params.mapByIdx imm)

/-- `LD_MAP_VAL_IDX` (`45_imm64.md` R358). -/
def execLdMapValIdx (dst : Reg) (imm nextImm : Word32) (s : State) : Out :=
  loadAddress s dst (mapValue s (lookup s.params.mapByIdx imm) nextImm)

end Sys2Proof.Machine
end

