-- ==== Sys2Proof/Machine/Flags.lean ====
section
/-!
DEFINITION. BPF keeps no flags: no instruction records a carry, an overflow, a sign or a zero (`10_state.md` R26,
`40_alu.md` R102). What a flag register would hold elsewhere is computed by each conditional jump from its two
operands; these are the eleven conditions of `42_jump.md` R222, for operands of any width.
-/

namespace Sys2Proof.Machine

/-- JEQ: `A = B`. -/
def condEq {w : Nat} (a b : BitVec w) : Bool := decide (a = b)

/-- JNE: `A != B`. -/
def condNe {w : Nat} (a b : BitVec w) : Bool := decide (a ≠ b)

/-- JSET: the bitwise AND of the operands is not zero. -/
def condSet {w : Nat} (a b : BitVec w) : Bool := decide (a &&& b ≠ 0#w)

/-- JGT: `u(A) > u(B)`. -/
def condGt {w : Nat} (a b : BitVec w) : Bool := decide (a.toNat > b.toNat)

/-- JGE: `u(A) >= u(B)`. -/
def condGe {w : Nat} (a b : BitVec w) : Bool := decide (a.toNat ≥ b.toNat)

/-- JLT: `u(A) < u(B)`. -/
def condLt {w : Nat} (a b : BitVec w) : Bool := decide (a.toNat < b.toNat)

/-- JLE: `u(A) <= u(B)`. -/
def condLe {w : Nat} (a b : BitVec w) : Bool := decide (a.toNat ≤ b.toNat)

/-- JSGT: `s(A) > s(B)`. -/
def condSgt {w : Nat} (a b : BitVec w) : Bool := decide (a.toInt > b.toInt)

/-- JSGE: `s(A) >= s(B)`. -/
def condSge {w : Nat} (a b : BitVec w) : Bool := decide (a.toInt ≥ b.toInt)

/-- JSLT: `s(A) < s(B)`. -/
def condSlt {w : Nat} (a b : BitVec w) : Bool := decide (a.toInt < b.toInt)

/-- JSLE: `s(A) <= s(B)`. -/
def condSle {w : Nat} (a b : BitVec w) : Bool := decide (a.toInt ≤ b.toInt)

end Sys2Proof.Machine
end

