-- ==== Sys2Proof/Machine/Jump.lean ====
section
/-!
DEFINITION. The jump, call and exit instructions (`42_jump.md`). A jump never faults because of its target: the next
fetch does (R220). A conditional jump writes no register and no memory (R221).
-/

namespace Sys2Proof.Machine

/-- The end of a conditional jump: taken, `pc <- pc + 1 + s(off)`; else `pc <- pc + 1` (`42_jump.md` R220, R223). -/
def State.branch (s : State) (off : Offset) (taken : Bool) : State :=
  if taken then s.jumpTo (jumpTarget s.pc off.toInt) else s.advance 1

/-- Class JMP32, K form: `A = x[dst][31:0]`, `B = imm` (`42_jump.md` R221). -/
def branch32K (s : State) (dst : Reg) (imm : Word32) (off : Offset) (cond : Word32 → Word32 → Bool) : Out :=
  withReg s dst fun a => .next (s.branch off (cond (low32 a) imm))

/-- Class JMP32, X form: `A = x[dst][31:0]`, `B = x[src][31:0]` (`42_jump.md` R221). -/
def branch32X (s : State) (dst src : Reg) (off : Offset) (cond : Word32 → Word32 → Bool) : Out :=
  withReg s dst fun a => withReg s src fun b => .next (s.branch off (cond (low32 a) (low32 b)))

/-- Class JMP, K form: `A = x[dst]`, `B = sext_64(imm)` (`42_jump.md` R221). -/
def branch64K (s : State) (dst : Reg) (imm : Word32) (off : Offset) (cond : Word → Word → Bool) : Out :=
  withReg s dst fun a => .next (s.branch off (cond a (immSext imm)))

/-- Class JMP, X form: `A = x[dst]`, `B = x[src]` (`42_jump.md` R221). -/
def branch64X (s : State) (dst src : Reg) (off : Offset) (cond : Word → Word → Bool) : Out :=
  withReg s dst fun a => withReg s src fun b => .next (s.branch off (cond a b))

/-- The registers a helper reads as arguments, R1 to R`k` (`42_jump.md` R275). -/
def argumentRegs (k : Nat) : List Reg := [Reg.r1, .r2, .r3, .r4, .r5].take k

/-- Read registers in order and go on with their values; the first unwritten one raises `UninitRegister`
(`42_jump.md` R271). -/
def withRegs (s : State) : List Reg → (List Word → Out) → Out
  | [], k => k []
  | r :: rs, k => withReg s r fun v => withRegs s rs fun vs => k (v :: vs)

/-- The helper refuses these arguments (`42_jump.md` R275; log 15). -/
def helperRefuses (h : Helper) (kind : CallKind) (imm : Word32) (values : List Word) (s : State) : Bool :=
  match h.refusing with
  | .never => false
  | .always => true
  | .platform => Config.helperRefuses kind imm values s.mem s.plat s.draws

/-- The state after a helper call (`42_jump.md` R271, R275, R276): R0 the result, R1 to R5 unwritten, data memory and
`plat` as the helper leaves them, the next slot. R6 to R10 and `frames` are unchanged. -/
def State.helperReturn (s : State) (ans : HelperAnswer) : State :=
  { s with
    regs := s.regs.dropArguments.set .r0 (.written ans.result)
    mem := s.mem.setAll ans.writes
    plat := ans.plat
    draws := s.draws + 1
    pc := s.pc + 1 }

/-- A call of a helper function in one step (`42_jump.md` R271, R273): the id is looked up before an argument is read
(`60_exceptions.md` R394). -/
def callHelper (kind : CallKind) (imm : Word32) (s : State) : Out :=
  match s.params.helper kind imm with
  | none => raise s (.unknownHelper imm)
  | some h =>
    withRegs s (argumentRegs h.arity.val) fun values =>
      if helperRefuses h kind imm values s then raise s (.helperFault imm)
      else .next (s.helperReturn (Config.helperAnswer kind imm values s.mem s.plat s.draws))

/-- A program-local call (`42_jump.md` R272): the depth check, the frame, the target `pc + 1 + s(imm)`. -/
def callLocal (imm : Word32) (s : State) : Out :=
  if s.atMaxDepth then raise s .callDepthExceeded
  else .next ((s.pushFrame (s.pc + 1)).jumpTo (jumpTarget s.pc imm.toInt))

/-- `EXIT` (`42_jump.md` R274): the end of the run with the value of R0 at depth 0, else a return to the caller. -/
def exitFrame (s : State) : Out :=
  match s.frames with
  | [] => withReg s .r0 fun v => .next { s with status := .exited v }
  | f :: rest => .next ((s.popFrame f rest).jumpTo f.ret)

/-- `JA` (`42_jump.md` R225). -/
def execJa (off : Offset) (s : State) : Out :=
  .next (s.jumpTo (jumpTarget s.pc off.toInt))

/-- `JA32` (`42_jump.md` R226). -/
def execJa32 (imm : Word32) (s : State) : Out :=
  .next (s.jumpTo (jumpTarget s.pc imm.toInt))

/-- `JEQ64_K` (`42_jump.md` R227). -/
def execJeq64K (dst : Reg) (imm : Word32) (off : Offset) (s : State) : Out :=
  branch64K s dst imm off condEq

/-- `JEQ64_X` (`42_jump.md` R228). -/
def execJeq64X (dst src : Reg) (off : Offset) (s : State) : Out :=
  branch64X s dst src off condEq

/-- `JEQ32_K` (`42_jump.md` R229). -/
def execJeq32K (dst : Reg) (imm : Word32) (off : Offset) (s : State) : Out :=
  branch32K s dst imm off condEq

/-- `JEQ32_X` (`42_jump.md` R230). -/
def execJeq32X (dst src : Reg) (off : Offset) (s : State) : Out :=
  branch32X s dst src off condEq

/-- `JGT64_K` (`42_jump.md` R231). -/
def execJgt64K (dst : Reg) (imm : Word32) (off : Offset) (s : State) : Out :=
  branch64K s dst imm off condGt

/-- `JGT64_X` (`42_jump.md` R232). -/
def execJgt64X (dst src : Reg) (off : Offset) (s : State) : Out :=
  branch64X s dst src off condGt

/-- `JGT32_K` (`42_jump.md` R233). -/
def execJgt32K (dst : Reg) (imm : Word32) (off : Offset) (s : State) : Out :=
  branch32K s dst imm off condGt

/-- `JGT32_X` (`42_jump.md` R234). -/
def execJgt32X (dst src : Reg) (off : Offset) (s : State) : Out :=
  branch32X s dst src off condGt

/-- `JGE64_K` (`42_jump.md` R235). -/
def execJge64K (dst : Reg) (imm : Word32) (off : Offset) (s : State) : Out :=
  branch64K s dst imm off condGe

/-- `JGE64_X` (`42_jump.md` R236). -/
def execJge64X (dst src : Reg) (off : Offset) (s : State) : Out :=
  branch64X s dst src off condGe

/-- `JGE32_K` (`42_jump.md` R237). -/
def execJge32K (dst : Reg) (imm : Word32) (off : Offset) (s : State) : Out :=
  branch32K s dst imm off condGe

/-- `JGE32_X` (`42_jump.md` R238). -/
def execJge32X (dst src : Reg) (off : Offset) (s : State) : Out :=
  branch32X s dst src off condGe

/-- `JSET64_K` (`42_jump.md` R239). -/
def execJset64K (dst : Reg) (imm : Word32) (off : Offset) (s : State) : Out :=
  branch64K s dst imm off condSet

/-- `JSET64_X` (`42_jump.md` R240). -/
def execJset64X (dst src : Reg) (off : Offset) (s : State) : Out :=
  branch64X s dst src off condSet

/-- `JSET32_K` (`42_jump.md` R241). -/
def execJset32K (dst : Reg) (imm : Word32) (off : Offset) (s : State) : Out :=
  branch32K s dst imm off condSet

/-- `JSET32_X` (`42_jump.md` R242). -/
def execJset32X (dst src : Reg) (off : Offset) (s : State) : Out :=
  branch32X s dst src off condSet

/-- `JNE64_K` (`42_jump.md` R243). -/
def execJne64K (dst : Reg) (imm : Word32) (off : Offset) (s : State) : Out :=
  branch64K s dst imm off condNe

/-- `JNE64_X` (`42_jump.md` R244). -/
def execJne64X (dst src : Reg) (off : Offset) (s : State) : Out :=
  branch64X s dst src off condNe

/-- `JNE32_K` (`42_jump.md` R245). -/
def execJne32K (dst : Reg) (imm : Word32) (off : Offset) (s : State) : Out :=
  branch32K s dst imm off condNe

/-- `JNE32_X` (`42_jump.md` R246). -/
def execJne32X (dst src : Reg) (off : Offset) (s : State) : Out :=
  branch32X s dst src off condNe

/-- `JSGT64_K` (`42_jump.md` R247). -/
def execJsgt64K (dst : Reg) (imm : Word32) (off : Offset) (s : State) : Out :=
  branch64K s dst imm off condSgt

/-- `JSGT64_X` (`42_jump.md` R248). -/
def execJsgt64X (dst src : Reg) (off : Offset) (s : State) : Out :=
  branch64X s dst src off condSgt

/-- `JSGT32_K` (`42_jump.md` R249). -/
def execJsgt32K (dst : Reg) (imm : Word32) (off : Offset) (s : State) : Out :=
  branch32K s dst imm off condSgt

/-- `JSGT32_X` (`42_jump.md` R250). -/
def execJsgt32X (dst src : Reg) (off : Offset) (s : State) : Out :=
  branch32X s dst src off condSgt

/-- `JSGE64_K` (`42_jump.md` R251). -/
def execJsge64K (dst : Reg) (imm : Word32) (off : Offset) (s : State) : Out :=
  branch64K s dst imm off condSge

/-- `JSGE64_X` (`42_jump.md` R252). -/
def execJsge64X (dst src : Reg) (off : Offset) (s : State) : Out :=
  branch64X s dst src off condSge

/-- `JSGE32_K` (`42_jump.md` R253). -/
def execJsge32K (dst : Reg) (imm : Word32) (off : Offset) (s : State) : Out :=
  branch32K s dst imm off condSge

/-- `JSGE32_X` (`42_jump.md` R254). -/
def execJsge32X (dst src : Reg) (off : Offset) (s : State) : Out :=
  branch32X s dst src off condSge

/-- `JLT64_K` (`42_jump.md` R255). -/
def execJlt64K (dst : Reg) (imm : Word32) (off : Offset) (s : State) : Out :=
  branch64K s dst imm off condLt

/-- `JLT64_X` (`42_jump.md` R256). -/
def execJlt64X (dst src : Reg) (off : Offset) (s : State) : Out :=
  branch64X s dst src off condLt

/-- `JLT32_K` (`42_jump.md` R257). -/
def execJlt32K (dst : Reg) (imm : Word32) (off : Offset) (s : State) : Out :=
  branch32K s dst imm off condLt

/-- `JLT32_X` (`42_jump.md` R258). -/
def execJlt32X (dst src : Reg) (off : Offset) (s : State) : Out :=
  branch32X s dst src off condLt

/-- `JLE64_K` (`42_jump.md` R259). -/
def execJle64K (dst : Reg) (imm : Word32) (off : Offset) (s : State) : Out :=
  branch64K s dst imm off condLe

/-- `JLE64_X` (`42_jump.md` R260). -/
def execJle64X (dst src : Reg) (off : Offset) (s : State) : Out :=
  branch64X s dst src off condLe

/-- `JLE32_K` (`42_jump.md` R261). -/
def execJle32K (dst : Reg) (imm : Word32) (off : Offset) (s : State) : Out :=
  branch32K s dst imm off condLe

/-- `JLE32_X` (`42_jump.md` R262). -/
def execJle32X (dst src : Reg) (off : Offset) (s : State) : Out :=
  branch32X s dst src off condLe

/-- `JSLT64_K` (`42_jump.md` R263). -/
def execJslt64K (dst : Reg) (imm : Word32) (off : Offset) (s : State) : Out :=
  branch64K s dst imm off condSlt

/-- `JSLT64_X` (`42_jump.md` R264). -/
def execJslt64X (dst src : Reg) (off : Offset) (s : State) : Out :=
  branch64X s dst src off condSlt

/-- `JSLT32_K` (`42_jump.md` R265). -/
def execJslt32K (dst : Reg) (imm : Word32) (off : Offset) (s : State) : Out :=
  branch32K s dst imm off condSlt

/-- `JSLT32_X` (`42_jump.md` R266). -/
def execJslt32X (dst src : Reg) (off : Offset) (s : State) : Out :=
  branch32X s dst src off condSlt

/-- `JSLE64_K` (`42_jump.md` R267). -/
def execJsle64K (dst : Reg) (imm : Word32) (off : Offset) (s : State) : Out :=
  branch64K s dst imm off condSle

/-- `JSLE64_X` (`42_jump.md` R268). -/
def execJsle64X (dst src : Reg) (off : Offset) (s : State) : Out :=
  branch64X s dst src off condSle

/-- `JSLE32_K` (`42_jump.md` R269). -/
def execJsle32K (dst : Reg) (imm : Word32) (off : Offset) (s : State) : Out :=
  branch32K s dst imm off condSle

/-- `JSLE32_X` (`42_jump.md` R270). -/
def execJsle32X (dst src : Reg) (off : Offset) (s : State) : Out :=
  branch32X s dst src off condSle

/-- `CALL_HELPER` (`42_jump.md` R271). -/
def execCallHelper (imm : Word32) (s : State) : Out :=
  callHelper .byId imm s

/-- `CALL_LOCAL` (`42_jump.md` R272). -/
def execCallLocal (imm : Word32) (s : State) : Out :=
  callLocal imm s

/-- `CALL_BTF` (`42_jump.md` R273). -/
def execCallBtf (imm : Word32) (s : State) : Out :=
  callHelper .byBtf imm s

/-- `EXIT` (`42_jump.md` R274). -/
def execExit (s : State) : Out :=
  exitFrame s

end Sys2Proof.Machine
end

