-- ==== Sys2Proof/Machine/LoadStore.lean ====
section
/-!
DEFINITION. The regular and sign-extension loads and the stores (`43_load_store.md`). The order of events is R308: the
base register, then the value register, the address, alignment, admission, the access, the destination, the next slot.
-/

namespace Sys2Proof.Machine

/-- A load of `n` bytes, zero-extended (`43_load_store.md` R290, R307): the base is 'src_reg', the destination is not
read. -/
def load (s : State) (dst src : Reg) (off : Offset) (n : Nat) : Out :=
  withReg s src fun base => memRead s (effectiveAddress base off) n fun v t => .next (t.finish dst v)

/-- The low `n` bytes of a value sign-extended to 64 bits (`00_scope.md` R9). -/
def signExtendBytes (n : Nat) (v : Word) : Word := (v.setWidth (8 * n)).signExtend 64

/-- A load of `n` bytes, sign-extended (`43_load_store.md` R290, R307). -/
def loadSigned (s : State) (dst src : Reg) (off : Offset) (n : Nat) : Out :=
  withReg s src fun base =>
    memRead s (effectiveAddress base off) n fun v t => .next (t.finish dst (signExtendBytes n v))

/-- A store of the low `n` bytes of `sext_64(imm)` (`43_load_store.md` R307): the base is 'dst_reg'. -/
def storeImm (s : State) (dst : Reg) (off : Offset) (imm : Word32) (n : Nat) : Out :=
  withReg s dst fun base =>
    memWrite s (effectiveAddress base off) n (immSext imm) fun t => .next (t.advance 1)

/-- A store of the low `n` bytes of `x[src]` (`43_load_store.md` R307): the base register is read before the value
register (R308). -/
def storeReg (s : State) (dst src : Reg) (off : Offset) (n : Nat) : Out :=
  withReg s dst fun base => withReg s src fun v =>
    memWrite s (effectiveAddress base off) n v fun t => .next (t.advance 1)

/-- `LDXW` (`43_load_store.md` R292). -/
def execLdxw (dst src : Reg) (off : Offset) (s : State) : Out :=
  load s dst src off 4

/-- `LDXH` (`43_load_store.md` R293). -/
def execLdxh (dst src : Reg) (off : Offset) (s : State) : Out :=
  load s dst src off 2

/-- `LDXB` (`43_load_store.md` R294). -/
def execLdxb (dst src : Reg) (off : Offset) (s : State) : Out :=
  load s dst src off 1

/-- `LDXDW` (`43_load_store.md` R295). -/
def execLdxdw (dst src : Reg) (off : Offset) (s : State) : Out :=
  load s dst src off 8

/-- `LDXSW` (`43_load_store.md` R296). -/
def execLdxsw (dst src : Reg) (off : Offset) (s : State) : Out :=
  loadSigned s dst src off 4

/-- `LDXSH` (`43_load_store.md` R297). -/
def execLdxsh (dst src : Reg) (off : Offset) (s : State) : Out :=
  loadSigned s dst src off 2

/-- `LDXSB` (`43_load_store.md` R298). -/
def execLdxsb (dst src : Reg) (off : Offset) (s : State) : Out :=
  loadSigned s dst src off 1

/-- `STW` (`43_load_store.md` R299). -/
def execStw (dst : Reg) (off : Offset) (imm : Word32) (s : State) : Out :=
  storeImm s dst off imm 4

/-- `STH` (`43_load_store.md` R300). -/
def execSth (dst : Reg) (off : Offset) (imm : Word32) (s : State) : Out :=
  storeImm s dst off imm 2

/-- `STB` (`43_load_store.md` R301). -/
def execStb (dst : Reg) (off : Offset) (imm : Word32) (s : State) : Out :=
  storeImm s dst off imm 1

/-- `STDW` (`43_load_store.md` R302). -/
def execStdw (dst : Reg) (off : Offset) (imm : Word32) (s : State) : Out :=
  storeImm s dst off imm 8

/-- `STXW` (`43_load_store.md` R303). -/
def execStxw (dst src : Reg) (off : Offset) (s : State) : Out :=
  storeReg s dst src off 4

/-- `STXH` (`43_load_store.md` R304). -/
def execStxh (dst src : Reg) (off : Offset) (s : State) : Out :=
  storeReg s dst src off 2

/-- `STXB` (`43_load_store.md` R305). -/
def execStxb (dst src : Reg) (off : Offset) (s : State) : Out :=
  storeReg s dst src off 1

/-- `STXDW` (`43_load_store.md` R306). -/
def execStxdw (dst src : Reg) (off : Offset) (s : State) : Out :=
  storeReg s dst src off 8

end Sys2Proof.Machine
end

