-- ==== Sys2Proof/Machine/Packet.lean ====
section
/-!
DEFINITION. The six legacy packet access instructions (`46_legacy_packet.md`). The spec gives them an encoding and no
effect but this: `Unsupported` where the group `packet` is supported, `IllegalInstruction` where it is not (R370).
-/

namespace Sys2Proof.Machine

/-- `if packet not in GROUPS then raise IllegalInstruction(pc) else raise Unsupported(pc)` (`46_legacy_packet.md`
R370). -/
def legacyPacket (s : State) : Out :=
  if s.params.groups.packet then raise s .unsupported else raise s .illegalInstruction

/-- `LDABSW` (`46_legacy_packet.md` R371). -/
def execLdabsw (_imm : Word32) (s : State) : Out :=
  legacyPacket s

/-- `LDABSH` (`46_legacy_packet.md` R372). -/
def execLdabsh (_imm : Word32) (s : State) : Out :=
  legacyPacket s

/-- `LDABSB` (`46_legacy_packet.md` R373). -/
def execLdabsb (_imm : Word32) (s : State) : Out :=
  legacyPacket s

/-- `LDINDW` (`46_legacy_packet.md` R374). -/
def execLdindw (_src : Reg) (_imm : Word32) (s : State) : Out :=
  legacyPacket s

/-- `LDINDH` (`46_legacy_packet.md` R375). -/
def execLdindh (_src : Reg) (_imm : Word32) (s : State) : Out :=
  legacyPacket s

/-- `LDINDB` (`46_legacy_packet.md` R376). -/
def execLdindb (_src : Reg) (_imm : Word32) (s : State) : Out :=
  legacyPacket s

end Sys2Proof.Machine
end

