-- ==== Sys2Proof/Machine/Dispatch.lean ====
section
/-!
DEFINITION. One arm per instruction, each one call of its meaning.
-/

namespace Sys2Proof.Machine

def exec (i : Instr) (s : State) : Host.Outcome State Fault Refusal :=
  match i with
  | .add32K dst imm => Sys2Proof.Machine.execAdd32K dst imm s
  | .add32X dst src => Sys2Proof.Machine.execAdd32X dst src s
  | .add64K dst imm => Sys2Proof.Machine.execAdd64K dst imm s
  | .add64X dst src => Sys2Proof.Machine.execAdd64X dst src s
  | .sub32K dst imm => Sys2Proof.Machine.execSub32K dst imm s
  | .sub32X dst src => Sys2Proof.Machine.execSub32X dst src s
  | .sub64K dst imm => Sys2Proof.Machine.execSub64K dst imm s
  | .sub64X dst src => Sys2Proof.Machine.execSub64X dst src s
  | .mul32K dst imm => Sys2Proof.Machine.execMul32K dst imm s
  | .mul32X dst src => Sys2Proof.Machine.execMul32X dst src s
  | .mul64K dst imm => Sys2Proof.Machine.execMul64K dst imm s
  | .mul64X dst src => Sys2Proof.Machine.execMul64X dst src s
  | .div32K dst imm => Sys2Proof.Machine.execDiv32K dst imm s
  | .div32X dst src => Sys2Proof.Machine.execDiv32X dst src s
  | .div64K dst imm => Sys2Proof.Machine.execDiv64K dst imm s
  | .div64X dst src => Sys2Proof.Machine.execDiv64X dst src s
  | .sdiv32K dst imm => Sys2Proof.Machine.execSdiv32K dst imm s
  | .sdiv32X dst src => Sys2Proof.Machine.execSdiv32X dst src s
  | .sdiv64K dst imm => Sys2Proof.Machine.execSdiv64K dst imm s
  | .sdiv64X dst src => Sys2Proof.Machine.execSdiv64X dst src s
  | .or32K dst imm => Sys2Proof.Machine.execOr32K dst imm s
  | .or32X dst src => Sys2Proof.Machine.execOr32X dst src s
  | .or64K dst imm => Sys2Proof.Machine.execOr64K dst imm s
  | .or64X dst src => Sys2Proof.Machine.execOr64X dst src s
  | .and32K dst imm => Sys2Proof.Machine.execAnd32K dst imm s
  | .and32X dst src => Sys2Proof.Machine.execAnd32X dst src s
  | .and64K dst imm => Sys2Proof.Machine.execAnd64K dst imm s
  | .and64X dst src => Sys2Proof.Machine.execAnd64X dst src s
  | .lsh32K dst imm => Sys2Proof.Machine.execLsh32K dst imm s
  | .lsh32X dst src => Sys2Proof.Machine.execLsh32X dst src s
  | .lsh64K dst imm => Sys2Proof.Machine.execLsh64K dst imm s
  | .lsh64X dst src => Sys2Proof.Machine.execLsh64X dst src s
  | .rsh32K dst imm => Sys2Proof.Machine.execRsh32K dst imm s
  | .rsh32X dst src => Sys2Proof.Machine.execRsh32X dst src s
  | .rsh64K dst imm => Sys2Proof.Machine.execRsh64K dst imm s
  | .rsh64X dst src => Sys2Proof.Machine.execRsh64X dst src s
  | .neg32 dst => Sys2Proof.Machine.execNeg32 dst s
  | .neg64 dst => Sys2Proof.Machine.execNeg64 dst s
  | .mod32K dst imm => Sys2Proof.Machine.execMod32K dst imm s
  | .mod32X dst src => Sys2Proof.Machine.execMod32X dst src s
  | .mod64K dst imm => Sys2Proof.Machine.execMod64K dst imm s
  | .mod64X dst src => Sys2Proof.Machine.execMod64X dst src s
  | .smod32K dst imm => Sys2Proof.Machine.execSmod32K dst imm s
  | .smod32X dst src => Sys2Proof.Machine.execSmod32X dst src s
  | .smod64K dst imm => Sys2Proof.Machine.execSmod64K dst imm s
  | .smod64X dst src => Sys2Proof.Machine.execSmod64X dst src s
  | .xor32K dst imm => Sys2Proof.Machine.execXor32K dst imm s
  | .xor32X dst src => Sys2Proof.Machine.execXor32X dst src s
  | .xor64K dst imm => Sys2Proof.Machine.execXor64K dst imm s
  | .xor64X dst src => Sys2Proof.Machine.execXor64X dst src s
  | .mov32K dst imm => Sys2Proof.Machine.execMov32K dst imm s
  | .mov32X dst src => Sys2Proof.Machine.execMov32X dst src s
  | .mov64K dst imm => Sys2Proof.Machine.execMov64K dst imm s
  | .mov64X dst src => Sys2Proof.Machine.execMov64X dst src s
  | .movsx32From8 dst src => Sys2Proof.Machine.execMovsx32From8 dst src s
  | .movsx32From16 dst src => Sys2Proof.Machine.execMovsx32From16 dst src s
  | .movsx64From8 dst src => Sys2Proof.Machine.execMovsx64From8 dst src s
  | .movsx64From16 dst src => Sys2Proof.Machine.execMovsx64From16 dst src s
  | .movsx64From32 dst src => Sys2Proof.Machine.execMovsx64From32 dst src s
  | .arsh32K dst imm => Sys2Proof.Machine.execArsh32K dst imm s
  | .arsh32X dst src => Sys2Proof.Machine.execArsh32X dst src s
  | .arsh64K dst imm => Sys2Proof.Machine.execArsh64K dst imm s
  | .arsh64X dst src => Sys2Proof.Machine.execArsh64X dst src s
  | .le16 dst => Sys2Proof.Machine.execLe16 dst s
  | .le32 dst => Sys2Proof.Machine.execLe32 dst s
  | .le64 dst => Sys2Proof.Machine.execLe64 dst s
  | .be16 dst => Sys2Proof.Machine.execBe16 dst s
  | .be32 dst => Sys2Proof.Machine.execBe32 dst s
  | .be64 dst => Sys2Proof.Machine.execBe64 dst s
  | .bswap16 dst => Sys2Proof.Machine.execBswap16 dst s
  | .bswap32 dst => Sys2Proof.Machine.execBswap32 dst s
  | .bswap64 dst => Sys2Proof.Machine.execBswap64 dst s
  | .ja off => Sys2Proof.Machine.execJa off s
  | .ja32 imm => Sys2Proof.Machine.execJa32 imm s
  | .jeq64K dst imm off => Sys2Proof.Machine.execJeq64K dst imm off s
  | .jeq64X dst src off => Sys2Proof.Machine.execJeq64X dst src off s
  | .jeq32K dst imm off => Sys2Proof.Machine.execJeq32K dst imm off s
  | .jeq32X dst src off => Sys2Proof.Machine.execJeq32X dst src off s
  | .jgt64K dst imm off => Sys2Proof.Machine.execJgt64K dst imm off s
  | .jgt64X dst src off => Sys2Proof.Machine.execJgt64X dst src off s
  | .jgt32K dst imm off => Sys2Proof.Machine.execJgt32K dst imm off s
  | .jgt32X dst src off => Sys2Proof.Machine.execJgt32X dst src off s
  | .jge64K dst imm off => Sys2Proof.Machine.execJge64K dst imm off s
  | .jge64X dst src off => Sys2Proof.Machine.execJge64X dst src off s
  | .jge32K dst imm off => Sys2Proof.Machine.execJge32K dst imm off s
  | .jge32X dst src off => Sys2Proof.Machine.execJge32X dst src off s
  | .jset64K dst imm off => Sys2Proof.Machine.execJset64K dst imm off s
  | .jset64X dst src off => Sys2Proof.Machine.execJset64X dst src off s
  | .jset32K dst imm off => Sys2Proof.Machine.execJset32K dst imm off s
  | .jset32X dst src off => Sys2Proof.Machine.execJset32X dst src off s
  | .jne64K dst imm off => Sys2Proof.Machine.execJne64K dst imm off s
  | .jne64X dst src off => Sys2Proof.Machine.execJne64X dst src off s
  | .jne32K dst imm off => Sys2Proof.Machine.execJne32K dst imm off s
  | .jne32X dst src off => Sys2Proof.Machine.execJne32X dst src off s
  | .jsgt64K dst imm off => Sys2Proof.Machine.execJsgt64K dst imm off s
  | .jsgt64X dst src off => Sys2Proof.Machine.execJsgt64X dst src off s
  | .jsgt32K dst imm off => Sys2Proof.Machine.execJsgt32K dst imm off s
  | .jsgt32X dst src off => Sys2Proof.Machine.execJsgt32X dst src off s
  | .jsge64K dst imm off => Sys2Proof.Machine.execJsge64K dst imm off s
  | .jsge64X dst src off => Sys2Proof.Machine.execJsge64X dst src off s
  | .jsge32K dst imm off => Sys2Proof.Machine.execJsge32K dst imm off s
  | .jsge32X dst src off => Sys2Proof.Machine.execJsge32X dst src off s
  | .jlt64K dst imm off => Sys2Proof.Machine.execJlt64K dst imm off s
  | .jlt64X dst src off => Sys2Proof.Machine.execJlt64X dst src off s
  | .jlt32K dst imm off => Sys2Proof.Machine.execJlt32K dst imm off s
  | .jlt32X dst src off => Sys2Proof.Machine.execJlt32X dst src off s
  | .jle64K dst imm off => Sys2Proof.Machine.execJle64K dst imm off s
  | .jle64X dst src off => Sys2Proof.Machine.execJle64X dst src off s
  | .jle32K dst imm off => Sys2Proof.Machine.execJle32K dst imm off s
  | .jle32X dst src off => Sys2Proof.Machine.execJle32X dst src off s
  | .jslt64K dst imm off => Sys2Proof.Machine.execJslt64K dst imm off s
  | .jslt64X dst src off => Sys2Proof.Machine.execJslt64X dst src off s
  | .jslt32K dst imm off => Sys2Proof.Machine.execJslt32K dst imm off s
  | .jslt32X dst src off => Sys2Proof.Machine.execJslt32X dst src off s
  | .jsle64K dst imm off => Sys2Proof.Machine.execJsle64K dst imm off s
  | .jsle64X dst src off => Sys2Proof.Machine.execJsle64X dst src off s
  | .jsle32K dst imm off => Sys2Proof.Machine.execJsle32K dst imm off s
  | .jsle32X dst src off => Sys2Proof.Machine.execJsle32X dst src off s
  | .callHelper imm => Sys2Proof.Machine.execCallHelper imm s
  | .callLocal imm => Sys2Proof.Machine.execCallLocal imm s
  | .callBtf imm => Sys2Proof.Machine.execCallBtf imm s
  | .exit => Sys2Proof.Machine.execExit s
  | .ldxw dst src off => Sys2Proof.Machine.execLdxw dst src off s
  | .ldxh dst src off => Sys2Proof.Machine.execLdxh dst src off s
  | .ldxb dst src off => Sys2Proof.Machine.execLdxb dst src off s
  | .ldxdw dst src off => Sys2Proof.Machine.execLdxdw dst src off s
  | .ldxsw dst src off => Sys2Proof.Machine.execLdxsw dst src off s
  | .ldxsh dst src off => Sys2Proof.Machine.execLdxsh dst src off s
  | .ldxsb dst src off => Sys2Proof.Machine.execLdxsb dst src off s
  | .stw dst off imm => Sys2Proof.Machine.execStw dst off imm s
  | .sth dst off imm => Sys2Proof.Machine.execSth dst off imm s
  | .stb dst off imm => Sys2Proof.Machine.execStb dst off imm s
  | .stdw dst off imm => Sys2Proof.Machine.execStdw dst off imm s
  | .stxw dst src off => Sys2Proof.Machine.execStxw dst src off s
  | .stxh dst src off => Sys2Proof.Machine.execStxh dst src off s
  | .stxb dst src off => Sys2Proof.Machine.execStxb dst src off s
  | .stxdw dst src off => Sys2Proof.Machine.execStxdw dst src off s
  | .aadd32 dst src off => Sys2Proof.Machine.execAadd32 dst src off s
  | .aadd32Fetch dst src off => Sys2Proof.Machine.execAadd32Fetch dst src off s
  | .aor32 dst src off => Sys2Proof.Machine.execAor32 dst src off s
  | .aor32Fetch dst src off => Sys2Proof.Machine.execAor32Fetch dst src off s
  | .aand32 dst src off => Sys2Proof.Machine.execAand32 dst src off s
  | .aand32Fetch dst src off => Sys2Proof.Machine.execAand32Fetch dst src off s
  | .axor32 dst src off => Sys2Proof.Machine.execAxor32 dst src off s
  | .axor32Fetch dst src off => Sys2Proof.Machine.execAxor32Fetch dst src off s
  | .axchg32 dst src off => Sys2Proof.Machine.execAxchg32 dst src off s
  | .acmpxchg32 dst src off => Sys2Proof.Machine.execAcmpxchg32 dst src off s
  | .aadd64 dst src off => Sys2Proof.Machine.execAadd64 dst src off s
  | .aadd64Fetch dst src off => Sys2Proof.Machine.execAadd64Fetch dst src off s
  | .aor64 dst src off => Sys2Proof.Machine.execAor64 dst src off s
  | .aor64Fetch dst src off => Sys2Proof.Machine.execAor64Fetch dst src off s
  | .aand64 dst src off => Sys2Proof.Machine.execAand64 dst src off s
  | .aand64Fetch dst src off => Sys2Proof.Machine.execAand64Fetch dst src off s
  | .axor64 dst src off => Sys2Proof.Machine.execAxor64 dst src off s
  | .axor64Fetch dst src off => Sys2Proof.Machine.execAxor64Fetch dst src off s
  | .axchg64 dst src off => Sys2Proof.Machine.execAxchg64 dst src off s
  | .acmpxchg64 dst src off => Sys2Proof.Machine.execAcmpxchg64 dst src off s
  | .lddw dst imm nextImm => Sys2Proof.Machine.execLddw dst imm nextImm s
  | .ldMapFd dst imm => Sys2Proof.Machine.execLdMapFd dst imm s
  | .ldMapValFd dst imm nextImm => Sys2Proof.Machine.execLdMapValFd dst imm nextImm s
  | .ldVarAddr dst imm => Sys2Proof.Machine.execLdVarAddr dst imm s
  | .ldCodeAddr dst imm => Sys2Proof.Machine.execLdCodeAddr dst imm s
  | .ldMapIdx dst imm => Sys2Proof.Machine.execLdMapIdx dst imm s
  | .ldMapValIdx dst imm nextImm => Sys2Proof.Machine.execLdMapValIdx dst imm nextImm s
  | .ldabsw imm => Sys2Proof.Machine.execLdabsw imm s
  | .ldabsh imm => Sys2Proof.Machine.execLdabsh imm s
  | .ldabsb imm => Sys2Proof.Machine.execLdabsb imm s
  | .ldindw src imm => Sys2Proof.Machine.execLdindw src imm s
  | .ldindh src imm => Sys2Proof.Machine.execLdindh src imm s
  | .ldindb src imm => Sys2Proof.Machine.execLdindb src imm s

end Sys2Proof.Machine
end

