-- ==== Sys2Proof/Decode.lean ====
section
/-!
DEFINITION. Instruction words (`30_encoding.md`): the fields of a slot under either byte order, the decoder (total on any
slots, rejecting by name), and after it the encoder. The decoder follows the spec's own splits of the opcode byte
(R68 to R71); which conformance groups and writes a runtime accepts is `Machine/Legal.lean`.
-/

namespace Sys2Proof

/-! ### Register numbers and fields -/

/-- The register a 4-bit field names; 11 to 15 name none (`30_encoding.md` R76). -/
def Reg.ofField (n : BitVec 4) : Option Reg :=
  match n.toNat with
  | 0 => some .r0
  | 1 => some .r1
  | 2 => some .r2
  | 3 => some .r3
  | 4 => some .r4
  | 5 => some .r5
  | 6 => some .r6
  | 7 => some .r7
  | 8 => some .r8
  | 9 => some .r9
  | 10 => some .r10
  | _ => none

/-- The 4-bit field of a register. -/
def Reg.toField : Reg → BitVec 4
  | .r0 => 0
  | .r1 => 1
  | .r2 => 2
  | .r3 => 3
  | .r4 => 4
  | .r5 => 5
  | .r6 => 6
  | .r7 => 7
  | .r8 => 8
  | .r9 => 9
  | .r10 => 10

/-- The fields of one slot (`30_encoding.md` R61). -/
structure Fields where
  opcode : BitVec 8
  dst : BitVec 4
  src : BitVec 4
  off : Offset
  imm : Word32
deriving DecidableEq, Repr

/-- Byte `k` of a slot, in ascending address order. -/
def byteOf (x : Slot) (k : Nat) : Byte := x.extractLsb' (8 * k) 8

/-- The fields of a slot on a host (`30_encoding.md` R61 to R64): the register nibbles swap places, and 'offset' and
'imm' are in the host's byte order. -/
def fieldsOf (e : Endian) (x : Slot) : Fields :=
  match e with
  | .little =>
    { opcode := byteOf x 0
      dst := (byteOf x 1).extractLsb' 0 4
      src := (byteOf x 1).extractLsb' 4 4
      off := byteOf x 3 ++ byteOf x 2
      imm := byteOf x 7 ++ byteOf x 6 ++ byteOf x 5 ++ byteOf x 4 }
  | .big =>
    { opcode := byteOf x 0
      dst := (byteOf x 1).extractLsb' 4 4
      src := (byteOf x 1).extractLsb' 0 4
      off := byteOf x 2 ++ byteOf x 3
      imm := byteOf x 4 ++ byteOf x 5 ++ byteOf x 6 ++ byteOf x 7 }

/-- A 16-bit number with its two bytes in the other order. -/
def swapped16 (v : BitVec 16) : BitVec 16 := v.extractLsb' 0 8 ++ v.extractLsb' 8 8

/-- A 32-bit number with its four bytes in the other order. -/
def swapped32 (v : BitVec 32) : BitVec 32 :=
  v.extractLsb' 0 8 ++ v.extractLsb' 8 8 ++ v.extractLsb' 16 8 ++ v.extractLsb' 24 8

/-- The canonical word of a slot's fields (`30_encoding.md` R65). -/
def canonicalWord (f : Fields) : Slot := f.imm ++ f.off ++ f.src ++ f.dst ++ f.opcode

/-- The slot that holds the fields on a host, the way back from `fieldsOf` (`30_encoding.md` R61 to R65): on a
little-endian host it is the canonical word. -/
def slotOf (e : Endian) (f : Fields) : Slot :=
  match e with
  | .little => canonicalWord f
  | .big => swapped32 f.imm ++ swapped16 f.off ++ f.dst ++ f.src ++ f.opcode

/-! ### The decoder -/

/-- Why slots are not an instruction. Every one of them is `IllegalInstruction` when fetched (`60_exceptions.md`
R384). -/
inductive DecodeError where
  /-- An opcode byte that is assigned to nothing (`30_encoding.md` R75). -/
  | reservedOpcode
  /-- A reserved value of a selecting field (`30_encoding.md` R78). -/
  | reservedSelector
  /-- A register field above 10 (`30_encoding.md` R76). -/
  | badRegister
  /-- An unused field that is not zero, under `STRICT_UNUSED` (`30_encoding.md` R66). -/
  | unusedFieldNotZero
  /-- A wide instruction in the last slot (`30_encoding.md` R67). -/
  | missingSecondSlot
  /-- A second slot whose reserved half is not zero, whatever `STRICT_UNUSED` is (`30_encoding.md` R67). -/
  | reservedHalfNotZero
  /-- No slot at all. -/
  | noSlot
deriving DecidableEq, Repr

/-- What a decoder answers. -/
abbrev Decoded := Except DecodeError Instr

/-- Go on where the unused fields are zero; with `STRICT_UNUSED = false` they are ignored (`30_encoding.md` R66). -/
def unusedZero (strict zero : Bool) (k : Decoded) : Decoded :=
  if strict && !zero then .error .unusedFieldNotZero else k

/-- Go on with the register a field names (`30_encoding.md` R76). -/
def regField (n : BitVec 4) (k : Reg → Decoded) : Decoded :=
  match Reg.ofField n with
  | some r => k r
  | none => .error .badRegister

/-- Format `ALU_K`: 'src_reg' is unused (`30_encoding.md` Table R78-T). -/
def Fields.aluK (f : Fields) (strict : Bool) (mk : Reg → Word32 → Instr) : Decoded :=
  unusedZero strict (f.src == 0) <| regField f.dst fun d => .ok (mk d f.imm)

/-- Format `ALU_X`: 'imm' is unused. -/
def Fields.aluX (f : Fields) (strict : Bool) (mk : Reg → Reg → Instr) : Decoded :=
  unusedZero strict (f.imm == 0) <| regField f.dst fun d => regField f.src fun r => .ok (mk d r)

/-- Format `ALU_UNARY`: 'src_reg' and 'imm' are unused. -/
def Fields.aluUnary (f : Fields) (strict : Bool) (mk : Reg → Instr) : Decoded :=
  unusedZero strict (f.src == 0 && f.imm == 0) <| regField f.dst fun d => .ok (mk d)

/-- Format `JMP_K`: 'src_reg' is unused. -/
def Fields.jmpK (f : Fields) (strict : Bool) (mk : Reg → Word32 → Offset → Instr) : Decoded :=
  unusedZero strict (f.src == 0) <| regField f.dst fun d => .ok (mk d f.imm f.off)

/-- Formats `JMP_X`, `LDX` and `STX`: 'imm' is unused. -/
def Fields.twoRegs (f : Fields) (strict : Bool) (mk : Reg → Reg → Offset → Instr) : Decoded :=
  unusedZero strict (f.imm == 0) <| regField f.dst fun d => regField f.src fun r => .ok (mk d r f.off)

/-- Format `ST`: 'src_reg' is unused. -/
def Fields.st (f : Fields) (strict : Bool) (mk : Reg → Offset → Word32 → Instr) : Decoded :=
  unusedZero strict (f.src == 0) <| regField f.dst fun d => .ok (mk d f.off f.imm)

/-- The source bit `s`, bit 3 of the opcode byte (`30_encoding.md` R69, R70). -/
def Fields.isX (f : Fields) : Bool := f.opcode.getLsbD 3

/-- A code whose 'offset' selects one instruction, in K and X form (`40_alu.md` R109). -/
def Fields.plainCode (f : Fields) (strict : Bool) (k : Reg → Word32 → Instr) (x : Reg → Reg → Instr) : Decoded :=
  match f.off.toNat with
  | 0 => if f.isX then f.aluX strict x else f.aluK strict k
  | _ => .error .reservedSelector

/-- A division code: 'offset' 0 is the unsigned instruction, 1 the signed one (`40_alu.md` R109). -/
def Fields.divCode (f : Fields) (strict : Bool) (k : Reg → Word32 → Instr) (x : Reg → Reg → Instr)
    (sk : Reg → Word32 → Instr) (sx : Reg → Reg → Instr) : Decoded :=
  match f.off.toNat with
  | 0 => if f.isX then f.aluX strict x else f.aluK strict k
  | 1 => if f.isX then f.aluX strict sx else f.aluK strict sk
  | _ => .error .reservedSelector

/-- Code NEG: the source bit is clear, 'offset' is 0 (`40_alu.md` R108, R109). -/
def Fields.negCode (f : Fields) (strict : Bool) (mk : Reg → Instr) : Decoded :=
  if f.isX then .error .reservedOpcode
  else
    match f.off.toNat with
    | 0 => f.aluUnary strict mk
    | _ => .error .reservedSelector

/-- Code END: 'imm' selects the width; 'src_reg' and 'offset' are unused (`41_byteswap.md` R200, R201). -/
def Fields.endCode (f : Fields) (strict : Bool) (w16 w32 w64 : Reg → Instr) : Decoded :=
  match f.imm.toNat with
  | 16 => unusedZero strict (f.src == 0 && f.off == 0) <| regField f.dst fun d => .ok (w16 d)
  | 32 => unusedZero strict (f.src == 0 && f.off == 0) <| regField f.dst fun d => .ok (w32 d)
  | 64 => unusedZero strict (f.src == 0 && f.off == 0) <| regField f.dst fun d => .ok (w64 d)
  | _ => .error .reservedSelector

/-- The operation code, bits 7..4 of the opcode byte (`30_encoding.md` R69). -/
def Fields.code (f : Fields) : Nat := (f.opcode.extractLsb' 4 4).toNat

/-- Class ALU: 32-bit arithmetic, and the byte swaps `LE` and `BE` (`40_alu.md`, `41_byteswap.md`). -/
def Fields.decodeAlu32 (f : Fields) (strict : Bool) : Decoded :=
  match f.code with
  | 0x0 => f.plainCode strict .add32K .add32X
  | 0x1 => f.plainCode strict .sub32K .sub32X
  | 0x2 => f.plainCode strict .mul32K .mul32X
  | 0x3 => f.divCode strict .div32K .div32X .sdiv32K .sdiv32X
  | 0x4 => f.plainCode strict .or32K .or32X
  | 0x5 => f.plainCode strict .and32K .and32X
  | 0x6 => f.plainCode strict .lsh32K .lsh32X
  | 0x7 => f.plainCode strict .rsh32K .rsh32X
  | 0x8 => f.negCode strict .neg32
  | 0x9 => f.divCode strict .mod32K .mod32X .smod32K .smod32X
  | 0xa => f.plainCode strict .xor32K .xor32X
  | 0xb =>
    match f.isX, f.off.toNat with
    | false, 0 => f.aluK strict .mov32K
    | true, 0 => f.aluX strict .mov32X
    | true, 8 => f.aluX strict .movsx32From8
    | true, 16 => f.aluX strict .movsx32From16
    | _, _ => .error .reservedSelector
  | 0xc => f.plainCode strict .arsh32K .arsh32X
  | 0xd => if f.isX then f.endCode strict .be16 .be32 .be64 else f.endCode strict .le16 .le32 .le64
  | _ => .error .reservedOpcode

/-- Class ALU64: 64-bit arithmetic, and `BSWAP`, whose source bit must be 0 (`40_alu.md`, `41_byteswap.md` R200). -/
def Fields.decodeAlu64 (f : Fields) (strict : Bool) : Decoded :=
  match f.code with
  | 0x0 => f.plainCode strict .add64K .add64X
  | 0x1 => f.plainCode strict .sub64K .sub64X
  | 0x2 => f.plainCode strict .mul64K .mul64X
  | 0x3 => f.divCode strict .div64K .div64X .sdiv64K .sdiv64X
  | 0x4 => f.plainCode strict .or64K .or64X
  | 0x5 => f.plainCode strict .and64K .and64X
  | 0x6 => f.plainCode strict .lsh64K .lsh64X
  | 0x7 => f.plainCode strict .rsh64K .rsh64X
  | 0x8 => f.negCode strict .neg64
  | 0x9 => f.divCode strict .mod64K .mod64X .smod64K .smod64X
  | 0xa => f.plainCode strict .xor64K .xor64X
  | 0xb =>
    match f.isX, f.off.toNat with
    | false, 0 => f.aluK strict .mov64K
    | true, 0 => f.aluX strict .mov64X
    | true, 8 => f.aluX strict .movsx64From8
    | true, 16 => f.aluX strict .movsx64From16
    | true, 32 => f.aluX strict .movsx64From32
    | _, _ => .error .reservedSelector
  | 0xc => f.plainCode strict .arsh64K .arsh64X
  | 0xd => if f.isX then .error .reservedOpcode else f.endCode strict .bswap16 .bswap32 .bswap64
  | _ => .error .reservedOpcode

/-- A conditional jump in K or X form (`42_jump.md` R221). -/
def Fields.condCode (f : Fields) (strict : Bool) (k : Reg → Word32 → Offset → Instr)
    (x : Reg → Reg → Offset → Instr) : Decoded :=
  if f.isX then f.twoRegs strict x else f.jmpK strict k

/-- Format `CALL`: 'src_reg' selects; 'dst_reg' and 'offset' are unused (`42_jump.md` R271 to R273, R278). -/
def Fields.callCode (f : Fields) (strict : Bool) : Decoded :=
  match f.src.toNat with
  | 0 => unusedZero strict (f.dst == 0 && f.off == 0) (.ok (.callHelper f.imm))
  | 1 => unusedZero strict (f.dst == 0 && f.off == 0) (.ok (.callLocal f.imm))
  | 2 => unusedZero strict (f.dst == 0 && f.off == 0) (.ok (.callBtf f.imm))
  | _ => .error .reservedSelector

/-- Class JMP: 64-bit compare and jump, `JA`, the calls, `EXIT` (`42_jump.md`). -/
def Fields.decodeJmp64 (f : Fields) (strict : Bool) : Decoded :=
  match f.code with
  | 0x0 =>
    if f.isX then .error .reservedOpcode
    else unusedZero strict (f.dst == 0 && f.src == 0 && f.imm == 0) (.ok (.ja f.off))
  | 0x1 => f.condCode strict .jeq64K .jeq64X
  | 0x2 => f.condCode strict .jgt64K .jgt64X
  | 0x3 => f.condCode strict .jge64K .jge64X
  | 0x4 => f.condCode strict .jset64K .jset64X
  | 0x5 => f.condCode strict .jne64K .jne64X
  | 0x6 => f.condCode strict .jsgt64K .jsgt64X
  | 0x7 => f.condCode strict .jsge64K .jsge64X
  | 0x8 => if f.isX then .error .reservedOpcode else f.callCode strict
  | 0x9 =>
    if f.isX then .error .reservedOpcode
    else unusedZero strict (f.dst == 0 && f.src == 0 && f.off == 0 && f.imm == 0) (.ok .exit)
  | 0xa => f.condCode strict .jlt64K .jlt64X
  | 0xb => f.condCode strict .jle64K .jle64X
  | 0xc => f.condCode strict .jslt64K .jslt64X
  | 0xd => f.condCode strict .jsle64K .jsle64X
  | _ => .error .reservedOpcode

/-- Class JMP32: 32-bit compare and jump, `JA32` (`42_jump.md`); no call and no exit (R278). -/
def Fields.decodeJmp32 (f : Fields) (strict : Bool) : Decoded :=
  match f.code with
  | 0x0 =>
    if f.isX then .error .reservedOpcode
    else unusedZero strict (f.dst == 0 && f.src == 0 && f.off == 0) (.ok (.ja32 f.imm))
  | 0x1 => f.condCode strict .jeq32K .jeq32X
  | 0x2 => f.condCode strict .jgt32K .jgt32X
  | 0x3 => f.condCode strict .jge32K .jge32X
  | 0x4 => f.condCode strict .jset32K .jset32X
  | 0x5 => f.condCode strict .jne32K .jne32X
  | 0x6 => f.condCode strict .jsgt32K .jsgt32X
  | 0x7 => f.condCode strict .jsge32K .jsge32X
  | 0xa => f.condCode strict .jlt32K .jlt32X
  | 0xb => f.condCode strict .jle32K .jle32X
  | 0xc => f.condCode strict .jslt32K .jslt32X
  | 0xd => f.condCode strict .jsle32K .jsle32X
  | _ => .error .reservedOpcode

/-- The five bits above the class, `mode` and `sz`, bits 7..3 of the opcode byte (`30_encoding.md` R71). -/
def Fields.modeSize (f : Fields) : Nat := (f.opcode.extractLsb' 3 5).toNat

/-- Class LDX: mode MEM (3) with W, H, B, DW and mode MEMSX (4) with W, H, B (`43_load_store.md` R291). -/
def Fields.decodeLdx (f : Fields) (strict : Bool) : Decoded :=
  match f.modeSize with
  | 0b01100 => f.twoRegs strict .ldxw
  | 0b01101 => f.twoRegs strict .ldxh
  | 0b01110 => f.twoRegs strict .ldxb
  | 0b01111 => f.twoRegs strict .ldxdw
  | 0b10000 => f.twoRegs strict .ldxsw
  | 0b10001 => f.twoRegs strict .ldxsh
  | 0b10010 => f.twoRegs strict .ldxsb
  | _ => .error .reservedOpcode

/-- Class ST: mode MEM (3) with W, H, B, DW (`43_load_store.md` R291). -/
def Fields.decodeSt (f : Fields) (strict : Bool) : Decoded :=
  match f.modeSize with
  | 0b01100 => f.st strict .stw
  | 0b01101 => f.st strict .sth
  | 0b01110 => f.st strict .stb
  | 0b01111 => f.st strict .stdw
  | _ => .error .reservedOpcode

/-- Format `ATOMIC`: every field is used; go on with both registers. -/
def Fields.atomic (f : Fields) (mk : Reg → Reg → Offset → Instr) : Decoded :=
  regField f.dst fun d => regField f.src fun r => .ok (mk d r f.off)

/-- Mode ATOMIC, size W: 'imm' selects, all 32 bits of it (`44_atomic.md` R322). -/
def Fields.decodeAtomic32 (f : Fields) : Decoded :=
  match f.imm.toNat with
  | 0x00 => f.atomic .aadd32
  | 0x01 => f.atomic .aadd32Fetch
  | 0x40 => f.atomic .aor32
  | 0x41 => f.atomic .aor32Fetch
  | 0x50 => f.atomic .aand32
  | 0x51 => f.atomic .aand32Fetch
  | 0xa0 => f.atomic .axor32
  | 0xa1 => f.atomic .axor32Fetch
  | 0xe1 => f.atomic .axchg32
  | 0xf1 => f.atomic .acmpxchg32
  | _ => .error .reservedSelector

/-- Mode ATOMIC, size DW: the same ten values (`44_atomic.md` R322). -/
def Fields.decodeAtomic64 (f : Fields) : Decoded :=
  match f.imm.toNat with
  | 0x00 => f.atomic .aadd64
  | 0x01 => f.atomic .aadd64Fetch
  | 0x40 => f.atomic .aor64
  | 0x41 => f.atomic .aor64Fetch
  | 0x50 => f.atomic .aand64
  | 0x51 => f.atomic .aand64Fetch
  | 0xa0 => f.atomic .axor64
  | 0xa1 => f.atomic .axor64Fetch
  | 0xe1 => f.atomic .axchg64
  | 0xf1 => f.atomic .acmpxchg64
  | _ => .error .reservedSelector

/-- Class STX: mode MEM (3) with W, H, B, DW and mode ATOMIC (6) with W, DW (`44_atomic.md` R320). -/
def Fields.decodeStx (f : Fields) (strict : Bool) : Decoded :=
  match f.modeSize with
  | 0b01100 => f.twoRegs strict .stxw
  | 0b01101 => f.twoRegs strict .stxh
  | 0b01110 => f.twoRegs strict .stxb
  | 0b01111 => f.twoRegs strict .stxdw
  | 0b11000 => f.decodeAtomic32
  | 0b11011 => f.decodeAtomic64
  | _ => .error .reservedOpcode

/-- A wide form that uses 'next_imm' (`45_imm64.md` R350: subtypes 0, 2 and 6). -/
def Fields.wideUsing (f : Fields) (strict : Bool) (nextImm : Word32) (mk : Reg → Word32 → Word32 → Instr) : Decoded :=
  unusedZero strict (f.off == 0) <| regField f.dst fun d => .ok (mk d f.imm nextImm)

/-- A wide form in which 'next_imm' is unused (`45_imm64.md` R350: subtypes 1, 3, 4 and 5). -/
def Fields.widePlain (f : Fields) (strict : Bool) (nextImm : Word32) (mk : Reg → Word32 → Instr) : Decoded :=
  unusedZero strict (f.off == 0 && nextImm == 0) <| regField f.dst fun d => .ok (mk d f.imm)

/-- Opcode 0x18: 'src_reg' selects; the second slot must be there and its reserved half zero (`30_encoding.md` R67,
`45_imm64.md` R350). -/
def Fields.decodeWide (f : Fields) (strict : Bool) (next : Option Fields) : Decoded :=
  match next with
  | none => .error .missingSecondSlot
  | some g =>
    if g.opcode == 0 && g.dst == 0 && g.src == 0 && g.off == 0 then
      match f.src.toNat with
      | 0 => f.wideUsing strict g.imm .lddw
      | 1 => f.widePlain strict g.imm .ldMapFd
      | 2 => f.wideUsing strict g.imm .ldMapValFd
      | 3 => f.widePlain strict g.imm .ldVarAddr
      | 4 => f.widePlain strict g.imm .ldCodeAddr
      | 5 => f.widePlain strict g.imm .ldMapIdx
      | 6 => f.wideUsing strict g.imm .ldMapValIdx
      | _ => .error .reservedSelector
    else .error .reservedHalfNotZero

/-- Format `LDABS`: 'dst_reg', 'src_reg' and 'offset' are unused (`46_legacy_packet.md` R370). -/
def Fields.ldAbs (f : Fields) (strict : Bool) (mk : Word32 → Instr) : Decoded :=
  unusedZero strict (f.dst == 0 && f.src == 0 && f.off == 0) (.ok (mk f.imm))

/-- Format `LDIND`: 'dst_reg' and 'offset' are unused (`46_legacy_packet.md` R370). -/
def Fields.ldInd (f : Fields) (strict : Bool) (mk : Reg → Word32 → Instr) : Decoded :=
  unusedZero strict (f.dst == 0 && f.off == 0) <| regField f.src fun r => .ok (mk r f.imm)

/-- Class LD: mode IMM (0) with DW, modes ABS (1) and IND (2) with W, H, B (`45_imm64.md` R350, `46_legacy_packet.md`
R370). -/
def Fields.decodeLd (f : Fields) (strict : Bool) (next : Option Fields) : Decoded :=
  match f.modeSize with
  | 0b00011 => f.decodeWide strict next
  | 0b00100 => f.ldAbs strict .ldabsw
  | 0b00101 => f.ldAbs strict .ldabsh
  | 0b00110 => f.ldAbs strict .ldabsb
  | 0b01000 => f.ldInd strict .ldindw
  | 0b01001 => f.ldInd strict .ldindh
  | 0b01010 => f.ldInd strict .ldindb
  | _ => .error .reservedOpcode

/-- The instruction the fields of a slot and of the slot after it stand for, by class (`30_encoding.md` R68). -/
def Fields.decode (f : Fields) (strict : Bool) (next : Option Fields) : Decoded :=
  match (f.opcode.extractLsb' 0 3).toNat with
  | 0 => f.decodeLd strict next
  | 1 => f.decodeLdx strict
  | 2 => f.decodeSt strict
  | 3 => f.decodeStx strict
  | 4 => f.decodeAlu32 strict
  | 5 => f.decodeJmp64 strict
  | 6 => f.decodeJmp32 strict
  | _ => f.decodeAlu64 strict

/-- The decoder: the instruction that the slots from its first one on hold, on a host, with `STRICT_UNUSED` or without
(`30_encoding.md` R72 steps 2 to 4 and 7). Total on any slots. -/
def decode (e : Endian) (strict : Bool) : List Slot → Decoded
  | [] => .error .noSlot
  | x :: rest => (fieldsOf e x).decode strict (rest.head?.map (fieldsOf e))

/-! ### The encoder -/

/-- Fields of format `ALU_K`, `ALU_UNARY` and `END`: opcode byte, 'offset', 'dst_reg', 'imm'; 'src_reg' zero. -/
def fieldsK (opcode : BitVec 8) (off : Offset) (dst : Reg) (imm : Word32) : Fields :=
  { opcode := opcode, dst := dst.toField, src := 0, off := off, imm := imm }

/-- Fields of format `ALU_X`: opcode byte, 'offset', both registers; 'imm' zero. -/
def fieldsX (opcode : BitVec 8) (off : Offset) (dst src : Reg) : Fields :=
  { opcode := opcode, dst := dst.toField, src := src.toField, off := off, imm := 0 }

/-- Fields with no register: opcode byte, 'src_reg' as a subtype, 'offset', 'imm'; 'dst_reg' zero. -/
def fieldsNone (opcode : BitVec 8) (subtype : BitVec 4) (off : Offset) (imm : Word32) : Fields :=
  { opcode := opcode, dst := 0, src := subtype, off := off, imm := imm }

/-- Fields of format `JMP_K` and `ST`: opcode byte, 'dst_reg', 'offset', 'imm'; 'src_reg' zero. -/
def fieldsDst (opcode : BitVec 8) (dst : Reg) (off : Offset) (imm : Word32) : Fields :=
  { opcode := opcode, dst := dst.toField, src := 0, off := off, imm := imm }

/-- Fields of format `JMP_X`, `LDX`, `STX` and `ATOMIC`: opcode byte, both registers, 'offset', 'imm'. -/
def fieldsBoth (opcode : BitVec 8) (dst src : Reg) (off : Offset) (imm : Word32) : Fields :=
  { opcode := opcode, dst := dst.toField, src := src.toField, off := off, imm := imm }

/-- Fields of format `LDIND`: opcode byte, 'src_reg', 'imm'; the rest zero. -/
def fieldsSrc (opcode : BitVec 8) (src : Reg) (imm : Word32) : Fields :=
  { opcode := opcode, dst := 0, src := src.toField, off := 0, imm := imm }

/-- Fields of the first slot of format `IMM64`: opcode byte, subtype, 'dst_reg', 'imm'; 'offset' zero. -/
def fieldsWide (opcode : BitVec 8) (subtype : BitVec 4) (dst : Reg) (imm : Word32) : Fields :=
  { opcode := opcode, dst := dst.toField, src := subtype, off := 0, imm := imm }

/-- The fields of an instruction's first slot: opcode byte of Table R75-T, selecting fields of Table R78-T, unused
fields zero (`30_encoding.md`). -/
def encodeFields : Instr → Fields
  | .add32K dst imm => fieldsK 0x04 0 dst imm
  | .add32X dst src => fieldsX 0x0c 0 dst src
  | .add64K dst imm => fieldsK 0x07 0 dst imm
  | .add64X dst src => fieldsX 0x0f 0 dst src
  | .sub32K dst imm => fieldsK 0x14 0 dst imm
  | .sub32X dst src => fieldsX 0x1c 0 dst src
  | .sub64K dst imm => fieldsK 0x17 0 dst imm
  | .sub64X dst src => fieldsX 0x1f 0 dst src
  | .mul32K dst imm => fieldsK 0x24 0 dst imm
  | .mul32X dst src => fieldsX 0x2c 0 dst src
  | .mul64K dst imm => fieldsK 0x27 0 dst imm
  | .mul64X dst src => fieldsX 0x2f 0 dst src
  | .div32K dst imm => fieldsK 0x34 0 dst imm
  | .div32X dst src => fieldsX 0x3c 0 dst src
  | .div64K dst imm => fieldsK 0x37 0 dst imm
  | .div64X dst src => fieldsX 0x3f 0 dst src
  | .sdiv32K dst imm => fieldsK 0x34 1 dst imm
  | .sdiv32X dst src => fieldsX 0x3c 1 dst src
  | .sdiv64K dst imm => fieldsK 0x37 1 dst imm
  | .sdiv64X dst src => fieldsX 0x3f 1 dst src
  | .or32K dst imm => fieldsK 0x44 0 dst imm
  | .or32X dst src => fieldsX 0x4c 0 dst src
  | .or64K dst imm => fieldsK 0x47 0 dst imm
  | .or64X dst src => fieldsX 0x4f 0 dst src
  | .and32K dst imm => fieldsK 0x54 0 dst imm
  | .and32X dst src => fieldsX 0x5c 0 dst src
  | .and64K dst imm => fieldsK 0x57 0 dst imm
  | .and64X dst src => fieldsX 0x5f 0 dst src
  | .lsh32K dst imm => fieldsK 0x64 0 dst imm
  | .lsh32X dst src => fieldsX 0x6c 0 dst src
  | .lsh64K dst imm => fieldsK 0x67 0 dst imm
  | .lsh64X dst src => fieldsX 0x6f 0 dst src
  | .rsh32K dst imm => fieldsK 0x74 0 dst imm
  | .rsh32X dst src => fieldsX 0x7c 0 dst src
  | .rsh64K dst imm => fieldsK 0x77 0 dst imm
  | .rsh64X dst src => fieldsX 0x7f 0 dst src
  | .neg32 dst => fieldsK 0x84 0 dst 0
  | .neg64 dst => fieldsK 0x87 0 dst 0
  | .mod32K dst imm => fieldsK 0x94 0 dst imm
  | .mod32X dst src => fieldsX 0x9c 0 dst src
  | .mod64K dst imm => fieldsK 0x97 0 dst imm
  | .mod64X dst src => fieldsX 0x9f 0 dst src
  | .smod32K dst imm => fieldsK 0x94 1 dst imm
  | .smod32X dst src => fieldsX 0x9c 1 dst src
  | .smod64K dst imm => fieldsK 0x97 1 dst imm
  | .smod64X dst src => fieldsX 0x9f 1 dst src
  | .xor32K dst imm => fieldsK 0xa4 0 dst imm
  | .xor32X dst src => fieldsX 0xac 0 dst src
  | .xor64K dst imm => fieldsK 0xa7 0 dst imm
  | .xor64X dst src => fieldsX 0xaf 0 dst src
  | .mov32K dst imm => fieldsK 0xb4 0 dst imm
  | .mov32X dst src => fieldsX 0xbc 0 dst src
  | .mov64K dst imm => fieldsK 0xb7 0 dst imm
  | .mov64X dst src => fieldsX 0xbf 0 dst src
  | .movsx32From8 dst src => fieldsX 0xbc 8 dst src
  | .movsx32From16 dst src => fieldsX 0xbc 16 dst src
  | .movsx64From8 dst src => fieldsX 0xbf 8 dst src
  | .movsx64From16 dst src => fieldsX 0xbf 16 dst src
  | .movsx64From32 dst src => fieldsX 0xbf 32 dst src
  | .arsh32K dst imm => fieldsK 0xc4 0 dst imm
  | .arsh32X dst src => fieldsX 0xcc 0 dst src
  | .arsh64K dst imm => fieldsK 0xc7 0 dst imm
  | .arsh64X dst src => fieldsX 0xcf 0 dst src
  | .le16 dst => fieldsK 0xd4 0 dst 16
  | .le32 dst => fieldsK 0xd4 0 dst 32
  | .le64 dst => fieldsK 0xd4 0 dst 64
  | .be16 dst => fieldsK 0xdc 0 dst 16
  | .be32 dst => fieldsK 0xdc 0 dst 32
  | .be64 dst => fieldsK 0xdc 0 dst 64
  | .bswap16 dst => fieldsK 0xd7 0 dst 16
  | .bswap32 dst => fieldsK 0xd7 0 dst 32
  | .bswap64 dst => fieldsK 0xd7 0 dst 64
  | .ja off => fieldsNone 0x05 0 off 0
  | .ja32 imm => fieldsNone 0x06 0 0 imm
  | .jeq64K dst imm off => fieldsDst 0x15 dst off imm
  | .jeq64X dst src off => fieldsBoth 0x1d dst src off 0
  | .jeq32K dst imm off => fieldsDst 0x16 dst off imm
  | .jeq32X dst src off => fieldsBoth 0x1e dst src off 0
  | .jgt64K dst imm off => fieldsDst 0x25 dst off imm
  | .jgt64X dst src off => fieldsBoth 0x2d dst src off 0
  | .jgt32K dst imm off => fieldsDst 0x26 dst off imm
  | .jgt32X dst src off => fieldsBoth 0x2e dst src off 0
  | .jge64K dst imm off => fieldsDst 0x35 dst off imm
  | .jge64X dst src off => fieldsBoth 0x3d dst src off 0
  | .jge32K dst imm off => fieldsDst 0x36 dst off imm
  | .jge32X dst src off => fieldsBoth 0x3e dst src off 0
  | .jset64K dst imm off => fieldsDst 0x45 dst off imm
  | .jset64X dst src off => fieldsBoth 0x4d dst src off 0
  | .jset32K dst imm off => fieldsDst 0x46 dst off imm
  | .jset32X dst src off => fieldsBoth 0x4e dst src off 0
  | .jne64K dst imm off => fieldsDst 0x55 dst off imm
  | .jne64X dst src off => fieldsBoth 0x5d dst src off 0
  | .jne32K dst imm off => fieldsDst 0x56 dst off imm
  | .jne32X dst src off => fieldsBoth 0x5e dst src off 0
  | .jsgt64K dst imm off => fieldsDst 0x65 dst off imm
  | .jsgt64X dst src off => fieldsBoth 0x6d dst src off 0
  | .jsgt32K dst imm off => fieldsDst 0x66 dst off imm
  | .jsgt32X dst src off => fieldsBoth 0x6e dst src off 0
  | .jsge64K dst imm off => fieldsDst 0x75 dst off imm
  | .jsge64X dst src off => fieldsBoth 0x7d dst src off 0
  | .jsge32K dst imm off => fieldsDst 0x76 dst off imm
  | .jsge32X dst src off => fieldsBoth 0x7e dst src off 0
  | .jlt64K dst imm off => fieldsDst 0xa5 dst off imm
  | .jlt64X dst src off => fieldsBoth 0xad dst src off 0
  | .jlt32K dst imm off => fieldsDst 0xa6 dst off imm
  | .jlt32X dst src off => fieldsBoth 0xae dst src off 0
  | .jle64K dst imm off => fieldsDst 0xb5 dst off imm
  | .jle64X dst src off => fieldsBoth 0xbd dst src off 0
  | .jle32K dst imm off => fieldsDst 0xb6 dst off imm
  | .jle32X dst src off => fieldsBoth 0xbe dst src off 0
  | .jslt64K dst imm off => fieldsDst 0xc5 dst off imm
  | .jslt64X dst src off => fieldsBoth 0xcd dst src off 0
  | .jslt32K dst imm off => fieldsDst 0xc6 dst off imm
  | .jslt32X dst src off => fieldsBoth 0xce dst src off 0
  | .jsle64K dst imm off => fieldsDst 0xd5 dst off imm
  | .jsle64X dst src off => fieldsBoth 0xdd dst src off 0
  | .jsle32K dst imm off => fieldsDst 0xd6 dst off imm
  | .jsle32X dst src off => fieldsBoth 0xde dst src off 0
  | .callHelper imm => fieldsNone 0x85 0 0 imm
  | .callLocal imm => fieldsNone 0x85 1 0 imm
  | .callBtf imm => fieldsNone 0x85 2 0 imm
  | .exit => fieldsNone 0x95 0 0 0
  | .ldxw dst src off => fieldsBoth 0x61 dst src off 0
  | .ldxh dst src off => fieldsBoth 0x69 dst src off 0
  | .ldxb dst src off => fieldsBoth 0x71 dst src off 0
  | .ldxdw dst src off => fieldsBoth 0x79 dst src off 0
  | .ldxsw dst src off => fieldsBoth 0x81 dst src off 0
  | .ldxsh dst src off => fieldsBoth 0x89 dst src off 0
  | .ldxsb dst src off => fieldsBoth 0x91 dst src off 0
  | .stw dst off imm => fieldsDst 0x62 dst off imm
  | .sth dst off imm => fieldsDst 0x6a dst off imm
  | .stb dst off imm => fieldsDst 0x72 dst off imm
  | .stdw dst off imm => fieldsDst 0x7a dst off imm
  | .stxw dst src off => fieldsBoth 0x63 dst src off 0
  | .stxh dst src off => fieldsBoth 0x6b dst src off 0
  | .stxb dst src off => fieldsBoth 0x73 dst src off 0
  | .stxdw dst src off => fieldsBoth 0x7b dst src off 0
  | .aadd32 dst src off => fieldsBoth 0xc3 dst src off 0x00
  | .aadd32Fetch dst src off => fieldsBoth 0xc3 dst src off 0x01
  | .aor32 dst src off => fieldsBoth 0xc3 dst src off 0x40
  | .aor32Fetch dst src off => fieldsBoth 0xc3 dst src off 0x41
  | .aand32 dst src off => fieldsBoth 0xc3 dst src off 0x50
  | .aand32Fetch dst src off => fieldsBoth 0xc3 dst src off 0x51
  | .axor32 dst src off => fieldsBoth 0xc3 dst src off 0xa0
  | .axor32Fetch dst src off => fieldsBoth 0xc3 dst src off 0xa1
  | .axchg32 dst src off => fieldsBoth 0xc3 dst src off 0xe1
  | .acmpxchg32 dst src off => fieldsBoth 0xc3 dst src off 0xf1
  | .aadd64 dst src off => fieldsBoth 0xdb dst src off 0x00
  | .aadd64Fetch dst src off => fieldsBoth 0xdb dst src off 0x01
  | .aor64 dst src off => fieldsBoth 0xdb dst src off 0x40
  | .aor64Fetch dst src off => fieldsBoth 0xdb dst src off 0x41
  | .aand64 dst src off => fieldsBoth 0xdb dst src off 0x50
  | .aand64Fetch dst src off => fieldsBoth 0xdb dst src off 0x51
  | .axor64 dst src off => fieldsBoth 0xdb dst src off 0xa0
  | .axor64Fetch dst src off => fieldsBoth 0xdb dst src off 0xa1
  | .axchg64 dst src off => fieldsBoth 0xdb dst src off 0xe1
  | .acmpxchg64 dst src off => fieldsBoth 0xdb dst src off 0xf1
  | .lddw dst imm _ => fieldsWide 0x18 0 dst imm
  | .ldMapFd dst imm => fieldsWide 0x18 1 dst imm
  | .ldMapValFd dst imm _ => fieldsWide 0x18 2 dst imm
  | .ldVarAddr dst imm => fieldsWide 0x18 3 dst imm
  | .ldCodeAddr dst imm => fieldsWide 0x18 4 dst imm
  | .ldMapIdx dst imm => fieldsWide 0x18 5 dst imm
  | .ldMapValIdx dst imm _ => fieldsWide 0x18 6 dst imm
  | .ldabsw imm => fieldsNone 0x20 0 0 imm
  | .ldabsh imm => fieldsNone 0x28 0 0 imm
  | .ldabsb imm => fieldsNone 0x30 0 0 imm
  | .ldindw src imm => fieldsSrc 0x40 src imm
  | .ldindh src imm => fieldsSrc 0x48 src imm
  | .ldindb src imm => fieldsSrc 0x50 src imm

/-- The 'next_imm' of an instruction's second slot; `none` for a basic instruction (`30_encoding.md` R67, `45_imm64.md`
R350). -/
def encodeNext (i : Instr) : Option Word32 :=
  match i with
  | .lddw _ _ nextImm | .ldMapValFd _ _ nextImm | .ldMapValIdx _ _ nextImm => some nextImm
  | .ldMapFd .. | .ldVarAddr .. | .ldCodeAddr .. | .ldMapIdx .. => some 0
  | .add32K .. | .add32X .. | .add64K .. | .add64X .. | .sub32K .. | .sub32X .. | .sub64K .. | .sub64X ..
  | .mul32K .. | .mul32X .. | .mul64K .. | .mul64X .. | .div32K .. | .div32X .. | .div64K .. | .div64X ..
  | .sdiv32K .. | .sdiv32X .. | .sdiv64K .. | .sdiv64X .. | .or32K .. | .or32X .. | .or64K .. | .or64X ..
  | .and32K .. | .and32X .. | .and64K .. | .and64X .. | .lsh32K .. | .lsh32X .. | .lsh64K .. | .lsh64X ..
  | .rsh32K .. | .rsh32X .. | .rsh64K .. | .rsh64X .. | .neg32 .. | .neg64 .. | .mod32K .. | .mod32X ..
  | .mod64K .. | .mod64X .. | .smod32K .. | .smod32X .. | .smod64K .. | .smod64X .. | .xor32K .. | .xor32X ..
  | .xor64K .. | .xor64X .. | .mov32K .. | .mov32X .. | .mov64K .. | .mov64X .. | .movsx32From8 ..
  | .movsx32From16 .. | .movsx64From8 .. | .movsx64From16 .. | .movsx64From32 .. | .arsh32K .. | .arsh32X ..
  | .arsh64K .. | .arsh64X .. | .le16 .. | .le32 .. | .le64 .. | .be16 .. | .be32 .. | .be64 .. | .bswap16 ..
  | .bswap32 .. | .bswap64 .. | .ja .. | .ja32 .. | .jeq64K .. | .jeq64X .. | .jeq32K .. | .jeq32X ..
  | .jgt64K .. | .jgt64X .. | .jgt32K .. | .jgt32X .. | .jge64K .. | .jge64X .. | .jge32K .. | .jge32X ..
  | .jset64K .. | .jset64X .. | .jset32K .. | .jset32X .. | .jne64K .. | .jne64X .. | .jne32K .. | .jne32X ..
  | .jsgt64K .. | .jsgt64X .. | .jsgt32K .. | .jsgt32X .. | .jsge64K .. | .jsge64X .. | .jsge32K ..
  | .jsge32X .. | .jlt64K .. | .jlt64X .. | .jlt32K .. | .jlt32X .. | .jle64K .. | .jle64X .. | .jle32K ..
  | .jle32X .. | .jslt64K .. | .jslt64X .. | .jslt32K .. | .jslt32X .. | .jsle64K .. | .jsle64X ..
  | .jsle32K .. | .jsle32X .. | .callHelper .. | .callLocal .. | .callBtf .. | .exit | .ldxw .. | .ldxh ..
  | .ldxb .. | .ldxdw .. | .ldxsw .. | .ldxsh .. | .ldxsb .. | .stw .. | .sth .. | .stb .. | .stdw ..
  | .stxw .. | .stxh .. | .stxb .. | .stxdw .. | .aadd32 .. | .aadd32Fetch .. | .aor32 .. | .aor32Fetch ..
  | .aand32 .. | .aand32Fetch .. | .axor32 .. | .axor32Fetch .. | .axchg32 .. | .acmpxchg32 .. | .aadd64 ..
  | .aadd64Fetch .. | .aor64 .. | .aor64Fetch .. | .aand64 .. | .aand64Fetch .. | .axor64 .. | .axor64Fetch ..
  | .axchg64 .. | .acmpxchg64 .. | .ldabsw .. | .ldabsh .. | .ldabsb .. | .ldindw .. | .ldindh .. | .ldindb .. => none

/-- The fields of a second slot: 'next_imm' and a reserved half of zeros (`30_encoding.md` R67). -/
def secondFields (nextImm : Word32) : Fields :=
  { opcode := 0, dst := 0, src := 0, off := 0, imm := nextImm }

/-- The encoder: the one or two slots of an instruction on a host. -/
def encode (e : Endian) (i : Instr) : List Slot :=
  match encodeNext i with
  | none => [slotOf e (encodeFields i)]
  | some nextImm => [slotOf e (encodeFields i), slotOf e (secondFields nextImm)]

/-! ### The fields an instruction uses -/

/-- Which fields of a slot an instruction uses: selecting fields and operands, 'next_imm' of a second slot
among them. The opcode byte always is one (`30_encoding.md` R66, R78). -/
structure UsedFields where
  dst : Bool
  src : Bool
  off : Bool
  imm : Bool
  nextImm : Bool
deriving DecidableEq, Repr

/-- The fields with those that are not used set to zero. -/
def Fields.keep (f : Fields) (u : UsedFields) : Fields :=
  { opcode := f.opcode
    dst := if u.dst then f.dst else 0
    src := if u.src then f.src else 0
    off := if u.off then f.off else 0
    imm := if u.imm then f.imm else 0 }

/-- The fields each instruction uses, by the format of its row (`30_encoding.md` Table R78-T): every field but those
that the table requires to be zero as unused. -/
def usedFields (i : Instr) : UsedFields :=
  match i with
  -- `ALU_K`, `JMP_K`, `ST`
  | .add32K .. | .add64K .. | .sub32K .. | .sub64K .. | .mul32K .. | .mul64K .. | .div32K .. | .div64K ..
  | .sdiv32K .. | .sdiv64K .. | .or32K .. | .or64K .. | .and32K .. | .and64K .. | .lsh32K .. | .lsh64K ..
  | .rsh32K .. | .rsh64K .. | .mod32K .. | .mod64K .. | .smod32K .. | .smod64K .. | .xor32K .. | .xor64K ..
  | .mov32K .. | .mov64K .. | .arsh32K .. | .arsh64K .. | .jeq64K .. | .jeq32K .. | .jgt64K .. | .jgt32K ..
  | .jge64K .. | .jge32K .. | .jset64K .. | .jset32K .. | .jne64K .. | .jne32K .. | .jsgt64K .. | .jsgt32K ..
  | .jsge64K .. | .jsge32K .. | .jlt64K .. | .jlt32K .. | .jle64K .. | .jle32K .. | .jslt64K .. | .jslt32K ..
  | .jsle64K .. | .jsle32K .. | .stw .. | .sth .. | .stb .. | .stdw .. =>
    { dst := true, src := false, off := true, imm := true, nextImm := false }
  -- `ALU_X`, `JMP_X`, `LDX`, `STX`
  | .add32X .. | .add64X .. | .sub32X .. | .sub64X .. | .mul32X .. | .mul64X .. | .div32X .. | .div64X ..
  | .sdiv32X .. | .sdiv64X .. | .or32X .. | .or64X .. | .and32X .. | .and64X .. | .lsh32X .. | .lsh64X ..
  | .rsh32X .. | .rsh64X .. | .mod32X .. | .mod64X .. | .smod32X .. | .smod64X .. | .xor32X .. | .xor64X ..
  | .mov32X .. | .mov64X .. | .movsx32From8 .. | .movsx32From16 .. | .movsx64From8 .. | .movsx64From16 ..
  | .movsx64From32 .. | .arsh32X .. | .arsh64X .. | .jeq64X .. | .jeq32X .. | .jgt64X .. | .jgt32X ..
  | .jge64X .. | .jge32X .. | .jset64X .. | .jset32X .. | .jne64X .. | .jne32X .. | .jsgt64X .. | .jsgt32X ..
  | .jsge64X .. | .jsge32X .. | .jlt64X .. | .jlt32X .. | .jle64X .. | .jle32X .. | .jslt64X .. | .jslt32X ..
  | .jsle64X .. | .jsle32X .. | .ldxw .. | .ldxh .. | .ldxb .. | .ldxdw .. | .ldxsw .. | .ldxsh .. | .ldxsb ..
  | .stxw .. | .stxh .. | .stxb .. | .stxdw .. =>
    { dst := true, src := true, off := true, imm := false, nextImm := false }
  -- `ALU_UNARY`
  | .neg32 .. | .neg64 .. =>
    { dst := true, src := false, off := true, imm := false, nextImm := false }
  -- `END`
  | .le16 .. | .le32 .. | .le64 .. | .be16 .. | .be32 .. | .be64 .. | .bswap16 .. | .bswap32 .. | .bswap64 .. =>
    { dst := true, src := false, off := false, imm := true, nextImm := false }
  -- `JA`
  | .ja .. =>
    { dst := false, src := false, off := true, imm := false, nextImm := false }
  -- `JA32`, `LDABS`
  | .ja32 .. | .ldabsw .. | .ldabsh .. | .ldabsb .. =>
    { dst := false, src := false, off := false, imm := true, nextImm := false }
  -- `CALL`, `LDIND`
  | .callHelper .. | .callLocal .. | .callBtf .. | .ldindw .. | .ldindh .. | .ldindb .. =>
    { dst := false, src := true, off := false, imm := true, nextImm := false }
  -- `EXIT`
  | .exit =>
    { dst := false, src := false, off := false, imm := false, nextImm := false }
  -- `ATOMIC`
  | .aadd32 .. | .aadd32Fetch .. | .aor32 .. | .aor32Fetch .. | .aand32 .. | .aand32Fetch .. | .axor32 ..
  | .axor32Fetch .. | .axchg32 .. | .acmpxchg32 .. | .aadd64 .. | .aadd64Fetch .. | .aor64 .. | .aor64Fetch ..
  | .aand64 .. | .aand64Fetch .. | .axor64 .. | .axor64Fetch .. | .axchg64 .. | .acmpxchg64 .. =>
    { dst := true, src := true, off := true, imm := true, nextImm := false }
  -- `IMM64`
  | .lddw .. | .ldMapValFd .. | .ldMapValIdx .. =>
    { dst := true, src := true, off := false, imm := true, nextImm := true }
  -- `IMM64`
  | .ldMapFd .. | .ldVarAddr .. | .ldCodeAddr .. | .ldMapIdx .. =>
    { dst := true, src := true, off := false, imm := true, nextImm := false }

/-- The fields of a second slot that count: the reserved half always (`30_encoding.md` R67), 'next_imm' where the form
uses it. -/
def UsedFields.second (u : UsedFields) : UsedFields :=
  { dst := true, src := true, off := true, imm := u.nextImm, nextImm := false }

/-! ### The table's numbering -/

/-- The two slots of a table word, on a little-endian host: the table's bit 0 is bit 0 of the first slot's canonical
word, which on a little-endian host is the slot (`30_encoding.md` R65); every bit above `nbits` is 0. -/
def tableSlots (nbits w : Nat) : List Slot :=
  [BitVec.ofNat 64 (w % 2 ^ nbits), BitVec.ofNat 64 (w % 2 ^ nbits / 2 ^ 64)]

/-- The instruction the decoder reads from the bits of a table row (strict, as `STRICT_UNUSED` is at reset). -/
def decodeTableWord (nbits w : Nat) : Option Instr :=
  match decode .little true (tableSlots nbits w) with
  | .ok i => some i
  | .error _ => none

end Sys2Proof
end

