-- ==== Sys2Proof/Machine/Traits.lean ====
section
/-!
DEFINITION. What the spec tabulates of each instruction: its conformance group (`00_scope.md` Table R4-T), the registers
it reads and the one it writes (`10_state.md` Table R22-T), its access to data memory (`20_memory.md` Table R42-T).
-/

namespace Sys2Proof.Machine

/-- The conformance groups (`00_scope.md` R3). -/
inductive ConformanceGroup where
  | base32 | base64 | atomic32 | atomic64 | divmul32 | divmul64 | packet
deriving DecidableEq, Repr

/-- The conformance group of each instruction (`00_scope.md` R4, Table R4-T). -/
def groupOf : Instr → ConformanceGroup
  | .add32K .. | .add32X .. | .sub32K .. | .sub32X .. | .or32K .. | .or32X .. | .and32K .. | .and32X ..
  | .lsh32K .. | .lsh32X .. | .rsh32K .. | .rsh32X .. | .neg32 .. | .xor32K .. | .xor32X .. | .mov32K ..
  | .mov32X .. | .movsx32From8 .. | .movsx32From16 .. | .arsh32K .. | .arsh32X .. | .le16 .. | .le32 ..
  | .be16 .. | .be32 .. | .bswap16 .. | .bswap32 .. | .ja .. | .ja32 .. | .jeq32K .. | .jeq32X .. | .jgt32K ..
  | .jgt32X .. | .jge32K .. | .jge32X .. | .jset32K .. | .jset32X .. | .jne32K .. | .jne32X .. | .jsgt32K ..
  | .jsgt32X .. | .jsge32K .. | .jsge32X .. | .jlt32K .. | .jlt32X .. | .jle32K .. | .jle32X .. | .jslt32K ..
  | .jslt32X .. | .jsle32K .. | .jsle32X .. | .callHelper .. | .callLocal .. | .callBtf .. | .exit | .ldxw ..
  | .ldxh .. | .ldxb .. | .ldxsw .. | .ldxsh .. | .ldxsb .. | .stw .. | .sth .. | .stb .. | .stxw .. | .stxh ..
  | .stxb .. => .base32
  | .add64K .. | .add64X .. | .sub64K .. | .sub64X .. | .or64K .. | .or64X .. | .and64K .. | .and64X ..
  | .lsh64K .. | .lsh64X .. | .rsh64K .. | .rsh64X .. | .neg64 .. | .xor64K .. | .xor64X .. | .mov64K ..
  | .mov64X .. | .movsx64From8 .. | .movsx64From16 .. | .movsx64From32 .. | .arsh64K .. | .arsh64X ..
  | .le64 .. | .be64 .. | .bswap64 .. | .jeq64K .. | .jeq64X .. | .jgt64K .. | .jgt64X .. | .jge64K ..
  | .jge64X .. | .jset64K .. | .jset64X .. | .jne64K .. | .jne64X .. | .jsgt64K .. | .jsgt64X .. | .jsge64K ..
  | .jsge64X .. | .jlt64K .. | .jlt64X .. | .jle64K .. | .jle64X .. | .jslt64K .. | .jslt64X .. | .jsle64K ..
  | .jsle64X .. | .ldxdw .. | .stdw .. | .stxdw .. | .lddw .. | .ldMapFd .. | .ldMapValFd .. | .ldVarAddr ..
  | .ldCodeAddr .. | .ldMapIdx .. | .ldMapValIdx .. => .base64
  | .mul32K .. | .mul32X .. | .div32K .. | .div32X .. | .sdiv32K .. | .sdiv32X .. | .mod32K .. | .mod32X ..
  | .smod32K .. | .smod32X .. => .divmul32
  | .mul64K .. | .mul64X .. | .div64K .. | .div64X .. | .sdiv64K .. | .sdiv64X .. | .mod64K .. | .mod64X ..
  | .smod64K .. | .smod64X .. => .divmul64
  | .aadd32 .. | .aadd32Fetch .. | .aor32 .. | .aor32Fetch .. | .aand32 .. | .aand32Fetch .. | .axor32 ..
  | .axor32Fetch .. | .axchg32 .. | .acmpxchg32 .. => .atomic32
  | .aadd64 .. | .aadd64Fetch .. | .aor64 .. | .aor64Fetch .. | .aand64 .. | .aand64Fetch .. | .axor64 ..
  | .axor64Fetch .. | .axchg64 .. | .acmpxchg64 .. => .atomic64
  | .ldabsw .. | .ldabsh .. | .ldabsb .. | .ldindw .. | .ldindh .. | .ldindb .. => .packet

/-- The register an instruction's rule writes as its own result (`10_state.md` Table R22-T): the destination, the source
of a fetching atomic, R0 of a compare and exchange. What a call or a return does to registers is not here. -/
def writtenReg : Instr → Option Reg
  | .add32K dst _ | .add32X dst _ | .add64K dst _ | .add64X dst _ | .sub32K dst _ | .sub32X dst _
  | .sub64K dst _ | .sub64X dst _ | .mul32K dst _ | .mul32X dst _ | .mul64K dst _ | .mul64X dst _
  | .div32K dst _ | .div32X dst _ | .div64K dst _ | .div64X dst _ | .sdiv32K dst _ | .sdiv32X dst _
  | .sdiv64K dst _ | .sdiv64X dst _ | .or32K dst _ | .or32X dst _ | .or64K dst _ | .or64X dst _ | .and32K dst _
  | .and32X dst _ | .and64K dst _ | .and64X dst _ | .lsh32K dst _ | .lsh32X dst _ | .lsh64K dst _
  | .lsh64X dst _ | .rsh32K dst _ | .rsh32X dst _ | .rsh64K dst _ | .rsh64X dst _ | .neg32 dst | .neg64 dst
  | .mod32K dst _ | .mod32X dst _ | .mod64K dst _ | .mod64X dst _ | .smod32K dst _ | .smod32X dst _
  | .smod64K dst _ | .smod64X dst _ | .xor32K dst _ | .xor32X dst _ | .xor64K dst _ | .xor64X dst _
  | .mov32K dst _ | .mov32X dst _ | .mov64K dst _ | .mov64X dst _ | .movsx32From8 dst _ | .movsx32From16 dst _
  | .movsx64From8 dst _ | .movsx64From16 dst _ | .movsx64From32 dst _ | .arsh32K dst _ | .arsh32X dst _
  | .arsh64K dst _ | .arsh64X dst _ | .le16 dst | .le32 dst | .le64 dst | .be16 dst | .be32 dst | .be64 dst
  | .bswap16 dst | .bswap32 dst | .bswap64 dst | .ldxw dst _ _ | .ldxh dst _ _ | .ldxb dst _ _ | .ldxdw dst _ _
  | .ldxsw dst _ _ | .ldxsh dst _ _ | .ldxsb dst _ _ | .lddw dst _ _ | .ldMapFd dst _ | .ldMapValFd dst _ _
  | .ldVarAddr dst _ | .ldCodeAddr dst _ | .ldMapIdx dst _ | .ldMapValIdx dst _ _ => some dst
  | .aadd32Fetch _ src _ | .aor32Fetch _ src _ | .aand32Fetch _ src _ | .axor32Fetch _ src _ | .axchg32 _ src _
  | .aadd64Fetch _ src _ | .aor64Fetch _ src _ | .aand64Fetch _ src _ | .axor64Fetch _ src _ | .axchg64 _ src _ => some src
  | .acmpxchg32 .. | .acmpxchg64 .. => some .r0
  | .ja .. | .ja32 .. | .jeq64K .. | .jeq64X .. | .jeq32K .. | .jeq32X .. | .jgt64K .. | .jgt64X ..
  | .jgt32K .. | .jgt32X .. | .jge64K .. | .jge64X .. | .jge32K .. | .jge32X .. | .jset64K .. | .jset64X ..
  | .jset32K .. | .jset32X .. | .jne64K .. | .jne64X .. | .jne32K .. | .jne32X .. | .jsgt64K .. | .jsgt64X ..
  | .jsgt32K .. | .jsgt32X .. | .jsge64K .. | .jsge64X .. | .jsge32K .. | .jsge32X .. | .jlt64K .. | .jlt64X ..
  | .jlt32K .. | .jlt32X .. | .jle64K .. | .jle64X .. | .jle32K .. | .jle32X .. | .jslt64K .. | .jslt64X ..
  | .jslt32K .. | .jslt32X .. | .jsle64K .. | .jsle64X .. | .jsle32K .. | .jsle32X .. | .callHelper ..
  | .callLocal .. | .callBtf .. | .exit | .stw .. | .sth .. | .stb .. | .stdw .. | .stxw .. | .stxh ..
  | .stxb .. | .stxdw .. | .aadd32 .. | .aor32 .. | .aand32 .. | .axor32 .. | .aadd64 .. | .aor64 ..
  | .aand64 .. | .axor64 .. | .ldabsw .. | .ldabsh .. | .ldabsb .. | .ldindw .. | .ldindh .. | .ldindb .. => none

/-- The registers an instruction reads in a state, in the order its pseudocode reads them (`10_state.md` Table R22-T,
`60_exceptions.md` R394): a helper's arguments where the helper is known, R0 for an `EXIT` at call depth 0. -/
def readRegs (s : State) : Instr → List Reg
  | .add32K dst _ | .add64K dst _ | .sub32K dst _ | .sub64K dst _ | .mul32K dst _ | .mul64K dst _
  | .div32K dst _ | .div64K dst _ | .sdiv32K dst _ | .sdiv64K dst _ | .or32K dst _ | .or64K dst _
  | .and32K dst _ | .and64K dst _ | .lsh32K dst _ | .lsh64K dst _ | .rsh32K dst _ | .rsh64K dst _ | .neg32 dst
  | .neg64 dst | .mod32K dst _ | .mod64K dst _ | .smod32K dst _ | .smod64K dst _ | .xor32K dst _
  | .xor64K dst _ | .arsh32K dst _ | .arsh64K dst _ | .le16 dst | .le32 dst | .le64 dst | .be16 dst | .be32 dst
  | .be64 dst | .bswap16 dst | .bswap32 dst | .bswap64 dst | .jeq64K dst _ _ | .jeq32K dst _ _
  | .jgt64K dst _ _ | .jgt32K dst _ _ | .jge64K dst _ _ | .jge32K dst _ _ | .jset64K dst _ _ | .jset32K dst _ _
  | .jne64K dst _ _ | .jne32K dst _ _ | .jsgt64K dst _ _ | .jsgt32K dst _ _ | .jsge64K dst _ _
  | .jsge32K dst _ _ | .jlt64K dst _ _ | .jlt32K dst _ _ | .jle64K dst _ _ | .jle32K dst _ _ | .jslt64K dst _ _
  | .jslt32K dst _ _ | .jsle64K dst _ _ | .jsle32K dst _ _ | .stw dst _ _ | .sth dst _ _ | .stb dst _ _
  | .stdw dst _ _ => [dst]
  | .add32X dst src | .add64X dst src | .sub32X dst src | .sub64X dst src | .mul32X dst src | .mul64X dst src
  | .div32X dst src | .div64X dst src | .sdiv32X dst src | .sdiv64X dst src | .or32X dst src | .or64X dst src
  | .and32X dst src | .and64X dst src | .lsh32X dst src | .lsh64X dst src | .rsh32X dst src | .rsh64X dst src
  | .mod32X dst src | .mod64X dst src | .smod32X dst src | .smod64X dst src | .xor32X dst src | .xor64X dst src
  | .arsh32X dst src | .arsh64X dst src | .jeq64X dst src _ | .jeq32X dst src _ | .jgt64X dst src _
  | .jgt32X dst src _ | .jge64X dst src _ | .jge32X dst src _ | .jset64X dst src _ | .jset32X dst src _
  | .jne64X dst src _ | .jne32X dst src _ | .jsgt64X dst src _ | .jsgt32X dst src _ | .jsge64X dst src _
  | .jsge32X dst src _ | .jlt64X dst src _ | .jlt32X dst src _ | .jle64X dst src _ | .jle32X dst src _
  | .jslt64X dst src _ | .jslt32X dst src _ | .jsle64X dst src _ | .jsle32X dst src _ | .stxw dst src _
  | .stxh dst src _ | .stxb dst src _ | .stxdw dst src _ | .aadd32 dst src _ | .aadd32Fetch dst src _
  | .aor32 dst src _ | .aor32Fetch dst src _ | .aand32 dst src _ | .aand32Fetch dst src _ | .axor32 dst src _
  | .axor32Fetch dst src _ | .axchg32 dst src _ | .aadd64 dst src _ | .aadd64Fetch dst src _ | .aor64 dst src _
  | .aor64Fetch dst src _ | .aand64 dst src _ | .aand64Fetch dst src _ | .axor64 dst src _
  | .axor64Fetch dst src _ | .axchg64 dst src _ => [dst, src]
  | .mov32X _ src | .mov64X _ src | .movsx32From8 _ src | .movsx32From16 _ src | .movsx64From8 _ src
  | .movsx64From16 _ src | .movsx64From32 _ src | .ldxw _ src _ | .ldxh _ src _ | .ldxb _ src _
  | .ldxdw _ src _ | .ldxsw _ src _ | .ldxsh _ src _ | .ldxsb _ src _ => [src]
  | .acmpxchg32 dst src _ | .acmpxchg64 dst src _ => [dst, src, .r0]
  | .callHelper imm => (s.params.helper .byId imm).elim [] fun h => argumentRegs h.arity.val
  | .callBtf imm => (s.params.helper .byBtf imm).elim [] fun h => argumentRegs h.arity.val
  | .exit => if s.frames = [] then [.r0] else []
  | .mov32K .. | .mov64K .. | .ja .. | .ja32 .. | .callLocal .. | .lddw .. | .ldMapFd .. | .ldMapValFd ..
  | .ldVarAddr .. | .ldCodeAddr .. | .ldMapIdx .. | .ldMapValIdx .. | .ldabsw .. | .ldabsh .. | .ldabsb ..
  | .ldindw .. | .ldindh .. | .ldindb .. => []

/-- An access to data memory: the base register, the displacement, the number of bytes, the kind. -/
structure Access where
  base : Reg
  off : Offset
  size : Nat
  kind : AccessKind
deriving DecidableEq, Repr

/-- The access an instruction makes to data memory (`20_memory.md` Table R42-T, R43): the base is 'src_reg' of a load
and 'dst_reg' of a store or an atomic. A helper's accesses are not here (`42_jump.md` R276). -/
def memoryAccess : Instr → Option Access
  | .ldxw _ src off => some ⟨src, off, 4, .read⟩
  | .ldxh _ src off => some ⟨src, off, 2, .read⟩
  | .ldxb _ src off => some ⟨src, off, 1, .read⟩
  | .ldxdw _ src off => some ⟨src, off, 8, .read⟩
  | .ldxsw _ src off => some ⟨src, off, 4, .read⟩
  | .ldxsh _ src off => some ⟨src, off, 2, .read⟩
  | .ldxsb _ src off => some ⟨src, off, 1, .read⟩
  | .stw dst off _ => some ⟨dst, off, 4, .write⟩
  | .sth dst off _ => some ⟨dst, off, 2, .write⟩
  | .stb dst off _ => some ⟨dst, off, 1, .write⟩
  | .stdw dst off _ => some ⟨dst, off, 8, .write⟩
  | .stxw dst _ off => some ⟨dst, off, 4, .write⟩
  | .stxh dst _ off => some ⟨dst, off, 2, .write⟩
  | .stxb dst _ off => some ⟨dst, off, 1, .write⟩
  | .stxdw dst _ off => some ⟨dst, off, 8, .write⟩
  | .aadd32 dst _ off => some ⟨dst, off, 4, .atomic⟩
  | .aadd32Fetch dst _ off => some ⟨dst, off, 4, .atomic⟩
  | .aor32 dst _ off => some ⟨dst, off, 4, .atomic⟩
  | .aor32Fetch dst _ off => some ⟨dst, off, 4, .atomic⟩
  | .aand32 dst _ off => some ⟨dst, off, 4, .atomic⟩
  | .aand32Fetch dst _ off => some ⟨dst, off, 4, .atomic⟩
  | .axor32 dst _ off => some ⟨dst, off, 4, .atomic⟩
  | .axor32Fetch dst _ off => some ⟨dst, off, 4, .atomic⟩
  | .axchg32 dst _ off => some ⟨dst, off, 4, .atomic⟩
  | .acmpxchg32 dst _ off => some ⟨dst, off, 4, .atomic⟩
  | .aadd64 dst _ off => some ⟨dst, off, 8, .atomic⟩
  | .aadd64Fetch dst _ off => some ⟨dst, off, 8, .atomic⟩
  | .aor64 dst _ off => some ⟨dst, off, 8, .atomic⟩
  | .aor64Fetch dst _ off => some ⟨dst, off, 8, .atomic⟩
  | .aand64 dst _ off => some ⟨dst, off, 8, .atomic⟩
  | .aand64Fetch dst _ off => some ⟨dst, off, 8, .atomic⟩
  | .axor64 dst _ off => some ⟨dst, off, 8, .atomic⟩
  | .axor64Fetch dst _ off => some ⟨dst, off, 8, .atomic⟩
  | .axchg64 dst _ off => some ⟨dst, off, 8, .atomic⟩
  | .acmpxchg64 dst _ off => some ⟨dst, off, 8, .atomic⟩
  | .add32K .. | .add32X .. | .add64K .. | .add64X .. | .sub32K .. | .sub32X .. | .sub64K .. | .sub64X ..
  | .mul32K .. | .mul32X .. | .mul64K .. | .mul64X .. | .div32K .. | .div32X .. | .div64K .. | .div64X ..
  | .sdiv32K .. | .sdiv32X .. | .sdiv64K .. | .sdiv64X .. | .or32K .. | .or32X .. | .or64K .. | .or64X ..
  | .and32K .. | .and32X .. | .and64K .. | .and64X .. | .lsh32K .. | .lsh32X .. | .lsh64K .. | .lsh64X ..
  | .rsh32K .. | .rsh32X .. | .rsh64K .. | .rsh64X .. | .neg32 .. | .neg64 .. | .mod32K .. | .mod32X ..
  | .mod64K .. | .mod64X .. | .smod32K .. | .smod32X .. | .smod64K .. | .smod64X .. | .xor32K .. | .xor32X ..
  | .xor64K .. | .xor64X .. | .mov32K .. | .mov32X .. | .mov64K .. | .mov64X .. | .movsx32From8 ..
  | .movsx32From16 .. | .movsx64From8 .. | .movsx64From16 .. | .movsx64From32 .. | .arsh32K .. | .arsh32X ..
  | .arsh64K .. | .arsh64X .. | .le16 .. | .le32 .. | .le64 .. | .be16 .. | .be32 .. | .be64 .. | .bswap16 ..
  | .bswap32 .. | .bswap64 .. | .ja .. | .ja32 .. | .jeq64K .. | .jeq64X .. | .jeq32K .. | .jeq32X ..
  | .jgt64K .. | .jgt64X .. | .jgt32K .. | .jgt32X .. | .jge64K .. | .jge64X .. | .jge32K .. | .jge32X ..
  | .jset64K .. | .jset64X .. | .jset32K .. | .jset32X .. | .jne64K .. | .jne64X .. | .jne32K .. | .jne32X ..
  | .jsgt64K .. | .jsgt64X .. | .jsgt32K .. | .jsgt32X .. | .jsge64K .. | .jsge64X .. | .jsge32K ..
  | .jsge32X .. | .jlt64K .. | .jlt64X .. | .jlt32K .. | .jlt32X .. | .jle64K .. | .jle64X .. | .jle32K ..
  | .jle32X .. | .jslt64K .. | .jslt64X .. | .jslt32K .. | .jslt32X .. | .jsle64K .. | .jsle64X ..
  | .jsle32K .. | .jsle32X .. | .callHelper .. | .callLocal .. | .callBtf .. | .exit | .lddw .. | .ldMapFd ..
  | .ldMapValFd .. | .ldVarAddr .. | .ldCodeAddr .. | .ldMapIdx .. | .ldMapValIdx .. | .ldabsw .. | .ldabsh ..
  | .ldabsb .. | .ldindw .. | .ldindh .. | .ldindb .. => none

end Sys2Proof.Machine
end

