-- ==== Sys2Proof/Machine/Legal.lean ====
section
/-!
DEFINITION. Which decoded instructions and which launch parameters this runtime accepts: supported conformance groups,
the rule on writes to R10, legal regions. An instruction that decodes but fails one of the first two raises
`IllegalInstruction` (`30_encoding.md` R72 steps 5 and 6, R77, R86).
-/

namespace Sys2Proof.Machine

/-- `g ∈ GROUPS`. -/
def Groups.has (g : Groups) : ConformanceGroup → Bool
  | .base32 => g.base32
  | .base64 => g.base64
  | .atomic32 => g.atomic32
  | .atomic64 => g.atomic64
  | .divmul32 => g.divmul32
  | .divmul64 => g.divmul64
  | .packet => g.packet

/-- A set of groups an implementation may support (`00_scope.md` R3). -/
def Groups.legal (g : Groups) : Bool :=
  g.base32 && (!g.atomic64 || g.atomic32) && (!g.divmul64 || g.divmul32)

/-- A region lies in the 64-bit address space and its launch contents, where given, are `len` bytes (`20_memory.md`
R45). -/
def Region.fits (r : Region) : Bool :=
  decide (r.base.toNat + r.len ≤ 2 ^ 64) &&
    match r.init with
    | none => true
    | some bytes => decide (bytes.length = r.len)

/-- Two regions have no byte in common. -/
def Region.apart (r t : Region) : Bool :=
  decide (r.base.toNat + r.len ≤ t.base.toNat) || decide (t.base.toNat + t.len ≤ r.base.toNat) ||
    decide (r.len = 0) || decide (t.len = 0)

/-- The regions are pairwise disjoint (`20_memory.md` R45). -/
def regionsApart : List Region → Bool
  | [] => true
  | r :: rs => rs.all r.apart && regionsApart rs

/-- The group of the instruction is supported (`30_encoding.md` R77). -/
def supported (p : Params) (i : Instr) : Bool := p.groups.has (groupOf i)

/-- The instruction writes R10 where `FP_READONLY` forbids it (`30_encoding.md` R86). -/
def writesFramePointer (p : Params) (i : Instr) : Bool :=
  p.fpReadonly && decide (writtenReg i = some .r10)

/-- The instruction is legal for this runtime (`30_encoding.md` R72 steps 5 and 6). -/
def legal (p : Params) (i : Instr) : Bool := supported p i && !writesFramePointer p i

end Sys2Proof.Machine
end

