-- ==== Sys2Proof/Machine/Fetch.lean ====
section
/-!
DEFINITION. Fetching and decoding the instruction at `pc` (`30_encoding.md` R72, `60_exceptions.md` R383 to R385).
-/

namespace Sys2Proof.Machine

/-- A slot that starts a wide instruction, by its opcode byte alone (`30_encoding.md` R72 step 7). -/
def isWideSlot (x : Slot) : Bool := byteOf x 0 == 0x18

/-- Slot `p` is in the second-slot set of the program: the linear scan from slot 0 of `60_exceptions.md` R385. The
first argument says whether the slot at the head of the list is a second slot. -/
def inSecondSlots : Bool → List Slot → Nat → Bool
  | _, [], _ => false
  | second, _ :: _, 0 => second
  | second, x :: rest, p + 1 => inSecondSlots (!second && isWideSlot x) rest p

/-- The instruction at `pc`, or the cause of the fault (`30_encoding.md` R72, in the order of `60_exceptions.md`
R394). -/
def State.fetch (s : State) : Except Cause Instr :=
  if s.pc < 0 ∨ s.pc ≥ s.params.program.length then .error (.pcOutOfRange s.pc)
  else if inSecondSlots false s.params.program s.pc.toNat then .error .jumpIntoWide
  else
    match decode s.params.hostEndian s.params.strictUnused (s.params.program.drop s.pc.toNat) with
    | .error _ => .error .illegalInstruction
    | .ok i => if legal s.params i then .ok i else .error .illegalInstruction

/-- The program text with two slots placed at index `start`: slots before it kept, zeros where the program was shorter,
the slot just before it zeroed where it would make `start` a second slot, the slots after it kept. -/
def placeSlots (program : List Slot) (start : Nat) (x y : Slot) : List Slot :=
  let before := (program ++ List.replicate start 0).take start
  let kept := if inSecondSlots false (before ++ [x]) start then before.dropLast ++ [0] else before
  kept ++ [x, y] ++ program.drop (start + 2)

end Sys2Proof.Machine
end

