-- ==== Sys2Proof/Machine/Step.lean ====
section
/-!
DEFINITION. One step of a run, and the placing of an instruction where the next step fetches.
-/

namespace Sys2Proof.Machine

/-- One step: in a running state, fetch and decode the instruction at `pc` and run it, or take the fetch's fault
(`30_encoding.md` R72, `60_exceptions.md` R381). From `Exited` and `Faulted` no step is defined (`10_state.md` R30). -/
def step (s : State) : Host.Outcome State Fault Refusal :=
  match s.status with
  | .running =>
    match s.fetch with
    | .error c => raise s c
    | .ok i => exec i s
  | .exited _ => .fault .runEnded
  | .faulted _ _ => .fault .runEnded

/-- The state with the instruction of a table word stored where the next step fetches: two slots placed in the program
at `pc` (at 0 where `pc` is negative), in the host's layout, and the status running (log 9). -/
def State.withFetchWord (s : State) (nbits w : Nat) : State :=
  let x := slotOf s.params.hostEndian (fieldsOf .little (BitVec.ofNat 64 (w % 2 ^ nbits)))
  let y := slotOf s.params.hostEndian (fieldsOf .little (BitVec.ofNat 64 (w % 2 ^ nbits / 2 ^ 64)))
  { s with
    pc := (s.pc.toNat : Int)
    status := .running
    params := { s.params with program := placeSlots s.params.program s.pc.toNat x y } }

end Sys2Proof.Machine
end

