-- ==== Sys2Proof/Safety.lean ====
section
/-!
DEFINITION. What counts as a safe run, in the terms claims use: a run that takes no fault of `60_exceptions.md`, and a
run that ends by `EXIT`. Every fault is a terminal status (R381), so "the program ran to `EXIT`" is refuted by any one.
-/

namespace Sys2Proof

open Sys2Proof.Machine

/-- The run has ended by a fault (`10_state.md` R30). -/
def isFaulted (s : State) : Bool :=
  match s.status with
  | .faulted _ _ => true
  | .running => false
  | .exited _ => false

/-- A step that answers a next state which is not a fault: the instruction ran to its end. -/
def stepIsSafe (s : State) : Bool :=
  match step s with
  | .next t => !isFaulted t
  | .fault _ => false
  | .refused _ => false

/-- A state that some number of steps leads to. -/
inductive Reaches (s : State) : State → Prop where
  | start : Reaches s s
  | step {t u : State} : Reaches s t → step t = .next u → Reaches s u

/-- The run from a state ends by `EXIT` with the result `v` (`42_jump.md` R274). -/
def ExitsWith (s : State) (v : Word) : Prop := ∃ t, Reaches s t ∧ t.status = .exited v

/-- No state that the run reaches has faulted. -/
def NeverFaults (s : State) : Prop := ∀ t, Reaches s t → isFaulted t = false

/-- The invariant every step keeps: data memory in its canonical form (`10_state.md` R28), the call depth within
`MAX_CALL_DEPTH` (`42_jump.md` R279), every frame saving what the frame policy says (R277), every return slot one past a
slot of the program (R272). -/
structure Inv (s : State) : Prop where
  memory : s.mem.wf = true
  depth : ∀ limit, s.params.maxCallDepth = some limit → s.frames.length ≤ limit
  saved : ∀ f ∈ s.frames, f.saved.isSome = decide (s.params.framePolicy = .linux)
  returns : ∀ f ∈ s.frames, 1 ≤ f.ret ∧ f.ret ≤ s.params.program.length

/-- Each saved frame holds the frame pointer of its own call depth: the head of a list of `d + 1` frames is the caller at
depth `d`. -/
def SavesFramePointers (p : Params) : List Frame → Prop
  | [] => True
  | f :: rest =>
    (∃ sv, f.saved = some sv ∧ sv.r10 = .written (p.frameTop rest.length)) ∧ SavesFramePointers p rest

/-- R10 is the frame pointer of the call depth, and the saved frames hold those of theirs: what `FP_READONLY` and the
`linux` policy are for (`30_encoding.md` R86, `42_jump.md` R277). -/
structure FramePointerInv (s : State) : Prop where
  readonly : s.params.fpReadonly = true
  policy : s.params.framePolicy = .linux
  current : s.regs.r10 = .written (s.params.frameTop s.frames.length)
  saved : SavesFramePointers s.params s.frames

end Sys2Proof
end

