-- ==== Sys2Proof/WellFormed.lean ====
section
/-!
DEFINITION. Well-formed terms: the instructions a runtime with given parameters accepts, and the parameters a launch may
have. The operands of an `Instr` are typed by the fields they come from, so two checks are left for an instruction.
-/

namespace Sys2Proof

open Sys2Proof.Machine

/-- An instruction is well formed for a runtime: its conformance group is supported (`30_encoding.md` R77) and it does
not write R10 where `FP_READONLY` forbids that (R86). -/
def wellFormed (p : Params) (i : Instr) : Bool := legal p i

/-- Launch parameters are well formed: a legal set of groups (`00_scope.md` R3), regions that fit the address space and
are pairwise disjoint (`20_memory.md` R45). -/
def wellFormedParams (p : Params) : Bool :=
  p.groups.legal && p.regions.all Region.fits && regionsApart p.regions

end Sys2Proof
end

