-- ==== Sys2Proof/Certificates/Slice0/Obligations.lean ====
section
/-!
DEFINITION. The statements for the provers. Each docstring says in words what the statement says; OBLIGATIONS.json
names the rules of the spec it formalises. An effect is written as the whole next state, so that what is not named in
it is unchanged.
-/

open Sys2Proof Sys2Proof.Machine

/-- For well-formed launch parameters, entry registers and platform state: the entry state has those registers, pc
0, no frame, status Running, those parameters and platform state; data memory holds the init bytes of every
unshared region and nothing at any other address. (R31, R410, R412, R53.) -/
def Obligations.EntryState : Prop :=
  ∀ (p : Params) (g : Regs) (plat : List Byte), wellFormedParams p = true →
    (State.entry p g plat).regs = g ∧ (State.entry p g plat).pc = 0 ∧ (State.entry p g plat).frames = [] ∧
    (State.entry p g plat).status = .running ∧ (State.entry p g plat).plat = plat ∧
    (State.entry p g plat).params = p ∧
    (∀ r ∈ p.regions, r.sharing = .unshared → ∀ bytes, r.init = some bytes → ∀ k, (h : k < bytes.length) →
      (State.entry p g plat).mem.get (r.base.toNat + k) = some bytes[k]) ∧
    (∀ a, (∀ r ∈ p.regions, r.sharing = .unshared → r.init ≠ none →
        ¬(r.base.toNat ≤ a ∧ a < r.base.toNat + r.len)) →
      (State.entry p g plat).mem.get a = none)

/-- From every entry state: pc is 0, slot 0 is no second slot, the instruction that the program decodes to from
slot 0 on is the one the first step runs when it is well formed, and with an empty program the first step takes
PcOutOfRange(0). (R411.) -/
def Obligations.EntryPoint : Prop :=
  ∀ (p : Params) (g : Regs) (plat : List Byte),
    (State.entry p g plat).pc = 0 ∧ inSecondSlots false p.program 0 = false ∧
    (∀ i, decode p.hostEndian p.strictUnused p.program = .ok i → wellFormed p i = true →
      step (State.entry p g plat) = exec i (State.entry p g plat)) ∧
    (p.program = [] →
      step (State.entry p g plat) =
        .next { State.entry p g plat with status := .faulted (.pcOutOfRange 0) 0 })

/-- With the registers read written: each of the twelve forms of ADD, SUB, MUL and the two of NEG answers the
state in which only the destination (the result modulo 2^W, zero-extended in class ALU) and pc (one slot on) have
changed. (R100, R101, R102, R108, R110, R114, R118, R146.) -/
def Obligations.AddSubMulNegResult : Prop :=
  ∀ (s : State) (dst src : Reg) (imm : Word32) (a b : Word), s.reg dst = .written a → s.reg src = .written b →
    let done := fun v : Word =>
      (Host.Outcome.next { s with regs := s.regs.set dst (.written v), pc := s.pc + 1 } : Out)
    let a32 : Word32 := a.setWidth 32
    let b32 : Word32 := b.setWidth 32
    let k : Word := imm.signExtend 64
    ∀ i v, (i, v) ∈ ([
      (.add32K dst imm, (BitVec.ofNat 32 (a32.toNat + imm.toNat)).setWidth 64),
      (.add32X dst src, (BitVec.ofNat 32 (a32.toNat + b32.toNat)).setWidth 64),
      (.add64K dst imm, BitVec.ofNat 64 (a.toNat + k.toNat)),
      (.add64X dst src, BitVec.ofNat 64 (a.toNat + b.toNat)),
      (.sub32K dst imm, (BitVec.ofInt 32 ((a32.toNat : Int) - imm.toNat)).setWidth 64),
      (.sub32X dst src, (BitVec.ofInt 32 ((a32.toNat : Int) - b32.toNat)).setWidth 64),
      (.sub64K dst imm, BitVec.ofInt 64 ((a.toNat : Int) - k.toNat)),
      (.sub64X dst src, BitVec.ofInt 64 ((a.toNat : Int) - b.toNat)),
      (.mul32K dst imm, (BitVec.ofNat 32 (a32.toNat * imm.toNat)).setWidth 64),
      (.mul32X dst src, (BitVec.ofNat 32 (a32.toNat * b32.toNat)).setWidth 64),
      (.mul64K dst imm, BitVec.ofNat 64 (a.toNat * k.toNat)),
      (.mul64X dst src, BitVec.ofNat 64 (a.toNat * b.toNat)),
      (.neg32 dst, (BitVec.ofInt 32 (-(a32.toNat : Int))).setWidth 64),
      (.neg64 dst, BitVec.ofInt 64 (-(a.toNat : Int)))] : List (Instr × Word)) →
      exec i s = done v

/-- With the registers read written and the W-bit divisor not zero: each form of DIV writes the floor of the
unsigned quotient and each form of MOD the unsigned remainder, zero-extended in class ALU; only the destination
and pc change. (R100, R101, R104, R122, R123, R124, R125, R148, R149, R150, R151.) -/
def Obligations.DivModResult : Prop :=
  ∀ (s : State) (dst src : Reg) (imm : Word32) (a b : Word), s.reg dst = .written a → s.reg src = .written b →
    let done := fun v : Word =>
      (Host.Outcome.next { s with regs := s.regs.set dst (.written v), pc := s.pc + 1 } : Out)
    let a32 : Word32 := a.setWidth 32
    let b32 : Word32 := b.setWidth 32
    let k : Word := imm.signExtend 64
    (imm ≠ 0 → ∀ i v, (i, v) ∈ ([
      (.div32K dst imm, (BitVec.ofNat 32 (a32.toNat / imm.toNat)).setWidth 64),
      (.mod32K dst imm, (BitVec.ofNat 32 (a32.toNat % imm.toNat)).setWidth 64),
      (.div64K dst imm, BitVec.ofNat 64 (a.toNat / k.toNat)),
      (.mod64K dst imm, BitVec.ofNat 64 (a.toNat % k.toNat))] : List (Instr × Word)) → exec i s = done v) ∧
    (b32 ≠ 0 → ∀ i v, (i, v) ∈ ([
      (.div32X dst src, (BitVec.ofNat 32 (a32.toNat / b32.toNat)).setWidth 64),
      (.mod32X dst src, (BitVec.ofNat 32 (a32.toNat % b32.toNat)).setWidth 64)] : List (Instr × Word)) →
      exec i s = done v) ∧
    (b ≠ 0 → ∀ i v, (i, v) ∈ ([
      (.div64X dst src, BitVec.ofNat 64 (a.toNat / b.toNat)),
      (.mod64X dst src, BitVec.ofNat 64 (a.toNat % b.toNat))] : List (Instr × Word)) → exec i s = done v)

/-- With the registers read written and the W-bit divisor not zero: each form of SDIV writes the signed quotient
rounded toward zero, wrapped to W bits, and each form of SMOD the remainder of that truncated division, zero-
extended in class ALU; only the destination and pc change. (R100, R101, R104, R126, R127, R128, R129, R152, R153,
R154, R155.) -/
def Obligations.SdivSmodResult : Prop :=
  ∀ (s : State) (dst src : Reg) (imm : Word32) (a b : Word), s.reg dst = .written a → s.reg src = .written b →
    let done := fun v : Word =>
      (Host.Outcome.next { s with regs := s.regs.set dst (.written v), pc := s.pc + 1 } : Out)
    let a32 : Word32 := a.setWidth 32
    let b32 : Word32 := b.setWidth 32
    let k : Word := imm.signExtend 64
    (imm ≠ 0 → ∀ i v, (i, v) ∈ ([
      (.sdiv32K dst imm, (BitVec.ofInt 32 (a32.toInt.tdiv imm.toInt)).setWidth 64),
      (.smod32K dst imm, (BitVec.ofInt 32 (a32.toInt.tmod imm.toInt)).setWidth 64),
      (.sdiv64K dst imm, BitVec.ofInt 64 (a.toInt.tdiv k.toInt)),
      (.smod64K dst imm, BitVec.ofInt 64 (a.toInt.tmod k.toInt))] : List (Instr × Word)) → exec i s = done v) ∧
    (b32 ≠ 0 → ∀ i v, (i, v) ∈ ([
      (.sdiv32X dst src, (BitVec.ofInt 32 (a32.toInt.tdiv b32.toInt)).setWidth 64),
      (.smod32X dst src, (BitVec.ofInt 32 (a32.toInt.tmod b32.toInt)).setWidth 64)] : List (Instr × Word)) →
      exec i s = done v) ∧
    (b ≠ 0 → ∀ i v, (i, v) ∈ ([
      (.sdiv64X dst src, BitVec.ofInt 64 (a.toInt.tdiv b.toInt)),
      (.smod64X dst src, BitVec.ofInt 64 (a.toInt.tmod b.toInt))] : List (Instr × Word)) → exec i s = done v)

/-- With the registers read written and a zero divisor, tested on the W-bit source operand: DIV and SDIV write 0
in both widths; MOD64 and SMOD64 leave the destination unchanged; MOD32 and SMOD32 keep its low half and clear its
upper half; pc goes one slot on and nothing else changes. (R103.) -/
def Obligations.DivisionByZero : Prop :=
  ∀ (s : State) (dst src : Reg) (a b : Word), s.reg dst = .written a → s.reg src = .written b →
    let done := fun v : Word =>
      (Host.Outcome.next { s with regs := s.regs.set dst (.written v), pc := s.pc + 1 } : Out)
    let low : Word := (a.setWidth 32).setWidth 64
    (∀ i v, (i, v) ∈ ([(.div32K dst 0, 0), (.sdiv32K dst 0, 0), (.div64K dst 0, 0), (.sdiv64K dst 0, 0),
      (.mod32K dst 0, low), (.smod32K dst 0, low), (.mod64K dst 0, a), (.smod64K dst 0, a)] :
      List (Instr × Word)) → exec i s = done v) ∧
    (b.setWidth 32 = 0#32 → ∀ i v, (i, v) ∈ ([(.div32X dst src, 0), (.sdiv32X dst src, 0),
      (.mod32X dst src, low), (.smod32X dst src, low)] : List (Instr × Word)) → exec i s = done v) ∧
    (b = 0#64 → ∀ i v, (i, v) ∈ ([(.div64X dst src, 0), (.sdiv64X dst src, 0),
      (.mod64X dst src, a), (.smod64X dst src, a)] : List (Instr × Word)) → exec i s = done v)

/-- With the registers read written: SDIV of -2^(W-1) by -1 writes the most negative W-bit value again, zero-
extended for W = 32, and SMOD in the same case writes 0, in K and X form; only the destination and pc change.
(R105.) -/
def Obligations.SignedDivisionOverflow : Prop :=
  ∀ (s : State) (dst src : Reg) (a b : Word), s.reg dst = .written a → s.reg src = .written b →
    let done := fun v : Word =>
      (Host.Outcome.next { s with regs := s.regs.set dst (.written v), pc := s.pc + 1 } : Out)
    (a.setWidth 32 = 0x80000000#32 → ∀ i v, (i, v) ∈ ([(.sdiv32K dst 0xffffffff#32, 0x80000000#64),
      (.smod32K dst 0xffffffff#32, 0)] : List (Instr × Word)) → exec i s = done v) ∧
    (a.setWidth 32 = 0x80000000#32 → b.setWidth 32 = 0xffffffff#32 → ∀ i v, (i, v) ∈ ([
      (.sdiv32X dst src, 0x80000000#64), (.smod32X dst src, 0)] : List (Instr × Word)) → exec i s = done v) ∧
    (a = 0x8000000000000000#64 → ∀ i v, (i, v) ∈ ([(.sdiv64K dst 0xffffffff#32, 0x8000000000000000#64),
      (.smod64K dst 0xffffffff#32, 0)] : List (Instr × Word)) → exec i s = done v) ∧
    (a = 0x8000000000000000#64 → b = 0xffffffffffffffff#64 → ∀ i v, (i, v) ∈ ([
      (.sdiv64X dst src, 0x8000000000000000#64), (.smod64X dst src, 0)] : List (Instr × Word)) →
      exec i s = done v)

/-- With the registers read written: each form of OR, AND and XOR writes the bitwise result of the W-bit operands,
zero-extended in class ALU, with imm sign-extended in class ALU64; only the destination and pc change. (R100,
R101, R130, R131, R132, R133, R134, R136, R156, R157, R158, R159.) -/
def Obligations.BitwiseResult : Prop :=
  ∀ (s : State) (dst src : Reg) (imm : Word32) (a b : Word), s.reg dst = .written a → s.reg src = .written b →
    let done := fun v : Word =>
      (Host.Outcome.next { s with regs := s.regs.set dst (.written v), pc := s.pc + 1 } : Out)
    let a32 : Word32 := a.setWidth 32
    let b32 : Word32 := b.setWidth 32
    let k : Word := imm.signExtend 64
    ∀ i v, (i, v) ∈ ([
      (.or32K dst imm, (a32 ||| imm).setWidth 64), (.or32X dst src, (a32 ||| b32).setWidth 64),
      (.or64K dst imm, a ||| k), (.or64X dst src, a ||| b),
      (.and32K dst imm, (a32 &&& imm).setWidth 64), (.and32X dst src, (a32 &&& b32).setWidth 64),
      (.and64K dst imm, a &&& k), (.and64X dst src, a &&& b),
      (.xor32K dst imm, (a32 ^^^ imm).setWidth 64), (.xor32X dst src, (a32 ^^^ b32).setWidth 64),
      (.xor64K dst imm, a ^^^ k), (.xor64X dst src, a ^^^ b)] : List (Instr × Word)) →
      exec i s = done v

/-- With the registers read written: with the amount taken modulo 64 (ALU64) or 32 (ALU), whether or not imm is
sign-extended first, LSH multiplies by the power of two modulo 2^W, RSH is the floor of the unsigned quotient and
ARSH of the signed one, each zero-extended in class ALU; only the destination and pc change. (R106.) -/
def Obligations.ShiftResult : Prop :=
  ∀ (s : State) (dst src : Reg) (imm : Word32) (a b : Word), s.reg dst = .written a → s.reg src = .written b →
    let done := fun v : Word =>
      (Host.Outcome.next { s with regs := s.regs.set dst (.written v), pc := s.pc + 1 } : Out)
    let a32 : Word32 := a.setWidth 32
    ∀ i v, (i, v) ∈ ([
      (.lsh32K dst imm, (BitVec.ofNat 32 (a32.toNat * 2 ^ (imm.toNat % 32))).setWidth 64),
      (.lsh32X dst src, (BitVec.ofNat 32 (a32.toNat * 2 ^ (b.toNat % 32))).setWidth 64),
      (.lsh64K dst imm, BitVec.ofNat 64 (a.toNat * 2 ^ (imm.toNat % 64))),
      (.lsh64X dst src, BitVec.ofNat 64 (a.toNat * 2 ^ (b.toNat % 64))),
      (.rsh32K dst imm, (BitVec.ofNat 32 (a32.toNat / 2 ^ (imm.toNat % 32))).setWidth 64),
      (.rsh32X dst src, (BitVec.ofNat 32 (a32.toNat / 2 ^ (b.toNat % 32))).setWidth 64),
      (.rsh64K dst imm, BitVec.ofNat 64 (a.toNat / 2 ^ (imm.toNat % 64))),
      (.rsh64X dst src, BitVec.ofNat 64 (a.toNat / 2 ^ (b.toNat % 64))),
      (.arsh32K dst imm, (BitVec.ofInt 32 (a32.toInt / 2 ^ (imm.toNat % 32))).setWidth 64),
      (.arsh32X dst src, (BitVec.ofInt 32 (a32.toInt / 2 ^ (b.toNat % 32))).setWidth 64),
      (.arsh64K dst imm, BitVec.ofInt 64 (a.toInt / 2 ^ (imm.toNat % 64))),
      (.arsh64X dst src, BitVec.ofInt 64 (a.toInt / 2 ^ (b.toNat % 64)))] : List (Instr × Word)) →
      exec i s = done v

/-- MOV in K form in every state, and MOV in X form and MOVSX with the source register written: the destination
receives the operand (low half zero-extended in class ALU, imm sign-extended in class ALU64, low 8, 16 or 32 bits
sign-extended for MOVSX); only the destination and pc change. (R100, R101, R107, R160, R161, R162, R163, R164,
R165, R166, R167, R168.) -/
def Obligations.MoveResult : Prop :=
  ∀ (s : State) (dst src : Reg) (imm : Word32) (b : Word),
    let done := fun v : Word =>
      (Host.Outcome.next { s with regs := s.regs.set dst (.written v), pc := s.pc + 1 } : Out)
    (∀ i v, (i, v) ∈ ([(.mov32K dst imm, imm.setWidth 64), (.mov64K dst imm, imm.signExtend 64)] :
      List (Instr × Word)) → exec i s = done v) ∧
    (s.reg src = .written b → ∀ i v, (i, v) ∈ ([
      (.mov32X dst src, (b.setWidth 32).setWidth 64), (.mov64X dst src, b),
      (.movsx32From8 dst src, ((b.setWidth 8).signExtend 32).setWidth 64),
      (.movsx32From16 dst src, ((b.setWidth 16).signExtend 32).setWidth 64),
      (.movsx64From8 dst src, (b.setWidth 8).signExtend 64),
      (.movsx64From16 dst src, (b.setWidth 16).signExtend 64),
      (.movsx64From32 dst src, (b.setWidth 32).signExtend 64)] : List (Instr × Word)) → exec i s = done v)

/-- With the destination written: BSWAP writes the low N bits with their bytes in opposite order; LE does so on a
big-endian host and keeps the low N bits on a little-endian one; BE the other way round; each result is zero-
extended to 64 bits; only the destination and pc change. (R8, R200, R201, R202, R203, R204, R206, R207, R209,
R210, R211.) -/
def Obligations.ByteSwapResult : Prop :=
  ∀ (s : State) (dst : Reg) (a : Word), s.reg dst = .written a →
    let done := fun v : Word =>
      (Host.Outcome.next { s with regs := s.regs.set dst (.written v), pc := s.pc + 1 } : Out)
    let y := fun n : Nat => (a.extractLsb' (8 * n) 8 : Byte)
    let low16 : Word := (a.setWidth 16).setWidth 64
    let low32 : Word := (a.setWidth 32).setWidth 64
    let rev16 : Word := (y 0 ++ y 1).setWidth 64
    let rev32 : Word := (y 0 ++ y 1 ++ y 2 ++ y 3).setWidth 64
    let rev64 : Word := y 0 ++ y 1 ++ y 2 ++ y 3 ++ y 4 ++ y 5 ++ y 6 ++ y 7
    (∀ i v, (i, v) ∈ ([(.bswap16 dst, rev16), (.bswap32 dst, rev32), (.bswap64 dst, rev64)] :
      List (Instr × Word)) → exec i s = done v) ∧
    (s.params.hostEndian = .little → ∀ i v, (i, v) ∈ ([
      (.le16 dst, low16), (.le32 dst, low32), (.le64 dst, a),
      (.be16 dst, rev16), (.be32 dst, rev32), (.be64 dst, rev64)] : List (Instr × Word)) → exec i s = done v) ∧
    (s.params.hostEndian = .big → ∀ i v, (i, v) ∈ ([
      (.le16 dst, rev16), (.le32 dst, rev32), (.le64 dst, rev64),
      (.be16 dst, low16), (.be32 dst, low32), (.be64 dst, a)] : List (Instr × Word)) → exec i s = done v)

/-- For each of the nine byte swaps of width N, on either host, with the destination written: the instruction can
be executed twice in a row, and then the destination holds the zero-extended low N bits of its first value. (R201,
R202.) -/
def Obligations.ByteSwapTwice : Prop :=
  ∀ (s : State) (dst : Reg) (a : Word), s.reg dst = .written a →
    ∀ i n, (i, n) ∈ ([(.le16 dst, 16), (.le32 dst, 32), (.le64 dst, 64), (.be16 dst, 16), (.be32 dst, 32),
      (.be64 dst, 64), (.bswap16 dst, 16), (.bswap32 dst, 32), (.bswap64 dst, 64)] : List (Instr × Nat)) →
      ∃ t u, exec i s = .next t ∧ exec i t = .next u ∧
        u.reg dst = .written ((a.setWidth n).setWidth 64) ∧ u.pc = s.pc + 2

/-- In every state JA sets pc to pc + 1 + offset and JA32 to pc + 1 + imm, both signed, on unbounded integers, and
changes nothing else. (R220, R223, R225, R226.) -/
def Obligations.UnconditionalJump : Prop :=
  ∀ (s : State) (off : Offset) (imm : Word32),
    exec (.ja off) s = .next { s with pc := s.pc + 1 + off.toInt } ∧
    exec (.ja32 imm) s = .next { s with pc := s.pc + 1 + imm.toInt }

/-- With the registers read written: each of the 22 class JMP conditional jumps sets pc to pc + 1 + offset when
its condition holds of x[dst] and the sign-extended imm or x[src], unsigned or signed as its name says, else to pc
+ 1, and changes nothing else. (R220, R221, R222, R223.) -/
def Obligations.ConditionalJump64 : Prop :=
  ∀ (s : State) (dst src : Reg) (imm : Word32) (off : Offset) (a b : Word),
    s.reg dst = .written a → s.reg src = .written b →
    let k : Word := imm.signExtend 64
    ∀ i taken, (i, taken) ∈ ([
      (.jeq64K dst imm off, decide (a = k)), (.jgt64K dst imm off, decide (a.toNat > k.toNat)),
      (.jge64K dst imm off, decide (a.toNat ≥ k.toNat)), (.jset64K dst imm off, decide (a &&& k ≠ 0)),
      (.jne64K dst imm off, decide (a ≠ k)), (.jsgt64K dst imm off, decide (a.toInt > k.toInt)),
      (.jsge64K dst imm off, decide (a.toInt ≥ k.toInt)), (.jlt64K dst imm off, decide (a.toNat < k.toNat)),
      (.jle64K dst imm off, decide (a.toNat ≤ k.toNat)), (.jslt64K dst imm off, decide (a.toInt < k.toInt)),
      (.jsle64K dst imm off, decide (a.toInt ≤ k.toInt)), (.jeq64X dst src off, decide (a = b)),
      (.jgt64X dst src off, decide (a.toNat > b.toNat)), (.jge64X dst src off, decide (a.toNat ≥ b.toNat)),
      (.jset64X dst src off, decide (a &&& b ≠ 0)), (.jne64X dst src off, decide (a ≠ b)),
      (.jsgt64X dst src off, decide (a.toInt > b.toInt)), (.jsge64X dst src off, decide (a.toInt ≥ b.toInt)),
      (.jlt64X dst src off, decide (a.toNat < b.toNat)), (.jle64X dst src off, decide (a.toNat ≤ b.toNat)),
      (.jslt64X dst src off, decide (a.toInt < b.toInt)), (.jsle64X dst src off, decide (a.toInt ≤ b.toInt))] : List (Instr × Bool)) →
      exec i s = .next { s with pc := if taken then s.pc + 1 + off.toInt else s.pc + 1 }

/-- With the registers read written: each of the 22 class JMP32 conditional jumps sets pc to pc + 1 + offset when
its condition holds of the low 32 bits of x[dst] and imm or the low 32 bits of x[src], else to pc + 1, and changes
nothing else. (R220, R221, R222, R223.) -/
def Obligations.ConditionalJump32 : Prop :=
  ∀ (s : State) (dst src : Reg) (imm : Word32) (off : Offset) (a b : Word),
    s.reg dst = .written a → s.reg src = .written b →
    let a32 : Word32 := a.setWidth 32
    let b32 : Word32 := b.setWidth 32
    ∀ i taken, (i, taken) ∈ ([
      (.jeq32K dst imm off, decide (a32 = imm)), (.jgt32K dst imm off, decide (a32.toNat > imm.toNat)),
      (.jge32K dst imm off, decide (a32.toNat ≥ imm.toNat)), (.jset32K dst imm off, decide (a32 &&& imm ≠ 0)),
      (.jne32K dst imm off, decide (a32 ≠ imm)), (.jsgt32K dst imm off, decide (a32.toInt > imm.toInt)),
      (.jsge32K dst imm off, decide (a32.toInt ≥ imm.toInt)), (.jlt32K dst imm off, decide (a32.toNat < imm.toNat)),
      (.jle32K dst imm off, decide (a32.toNat ≤ imm.toNat)), (.jslt32K dst imm off, decide (a32.toInt < imm.toInt)),
      (.jsle32K dst imm off, decide (a32.toInt ≤ imm.toInt)), (.jeq32X dst src off, decide (a32 = b32)),
      (.jgt32X dst src off, decide (a32.toNat > b32.toNat)), (.jge32X dst src off, decide (a32.toNat ≥ b32.toNat)),
      (.jset32X dst src off, decide (a32 &&& b32 ≠ 0)), (.jne32X dst src off, decide (a32 ≠ b32)),
      (.jsgt32X dst src off, decide (a32.toInt > b32.toInt)), (.jsge32X dst src off, decide (a32.toInt ≥ b32.toInt)),
      (.jlt32X dst src off, decide (a32.toNat < b32.toNat)), (.jle32X dst src off, decide (a32.toNat ≤ b32.toNat)),
      (.jslt32X dst src off, decide (a32.toInt < b32.toInt)), (.jsle32X dst src off, decide (a32.toInt ≤ b32.toInt))] : List (Instr × Bool)) →
      exec i s = .next { s with pc := if taken then s.pc + 1 + off.toInt else s.pc + 1 }

/-- Below the largest call depth: under the linux policy the frame holds the return slot and the five cells R6 to
R10 as they stand, R0 and R6 to R9 become unwritten, R10 becomes FRAME_TOP of the new depth; under control_only
the frame holds the return slot and no register changes; pc becomes pc + 1 + imm; nothing else changes. (R25,
R272, R277.) -/
def Obligations.CallLocalResult : Prop :=
  ∀ (s : State) (imm : Word32), (∀ limit, s.params.maxCallDepth = some limit → s.frames.length < limit) →
    (s.params.framePolicy = .linux →
      exec (.callLocal imm) s = .next { s with
        frames := { ret := s.pc + 1, saved := some { r6 := s.regs.r6, r7 := s.regs.r7, r8 := s.regs.r8,
                                                     r9 := s.regs.r9, r10 := s.regs.r10 } } :: s.frames
        regs := { r0 := .unwritten, r1 := s.regs.r1, r2 := s.regs.r2, r3 := s.regs.r3, r4 := s.regs.r4,
                  r5 := s.regs.r5, r6 := .unwritten, r7 := .unwritten, r8 := .unwritten, r9 := .unwritten,
                  r10 := .written (s.params.frameTop (s.frames.length + 1)) }
        pc := s.pc + 1 + imm.toInt }) ∧
    (s.params.framePolicy = .controlOnly →
      exec (.callLocal imm) s = .next { s with
        frames := { ret := s.pc + 1, saved := none } :: s.frames
        pc := s.pc + 1 + imm.toInt })

/-- With the call depth at a finite MAX_CALL_DEPTH, CALL_LOCAL answers the state with only the status changed, to
Faulted CallDepthExceeded at pc; with MAX_CALL_DEPTH infinite it never raises that fault; the default is 8.
(R279.) -/
def Obligations.CallDepthBound : Prop :=
  (∀ (s : State) (imm : Word32) (limit : Nat), s.params.maxCallDepth = some limit → s.frames.length = limit →
    exec (.callLocal imm) s = .next { s with status := .faulted .callDepthExceeded s.pc }) ∧
  (∀ (s : State) (imm : Word32), s.params.maxCallDepth = none →
    ∃ t, exec (.callLocal imm) s = .next t ∧ t.status = s.status ∧ t.frames.length = s.frames.length + 1) ∧
  State.reset.params.maxCallDepth = some 8

/-- With no frame and R0 written, EXIT sets the status to Exited with the value of R0 and changes nothing else, pc
included. (R30, R274.) -/
def Obligations.ExitEndsRun : Prop :=
  ∀ (s : State) (v : Word), s.frames = [] → s.reg .r0 = .written v →
    exec .exit s = .next { s with status := .exited v }

/-- With a frame on the list EXIT removes it and continues at its return slot; a frame that saved registers
(linux) gives back R6 to R10 as saved, leaves R1 to R5 unwritten and R0 as it is; a frame that saved none
(control_only) changes no register; nothing else changes. That the frame and not the policy decides is the model's
choice, log 21. (R274, R277.) -/
def Obligations.ReturnResult : Prop :=
  ∀ (s : State) (ret : Int) (rest : List Frame),
    (∀ sv, s.frames = { ret := ret, saved := some sv } :: rest →
      exec .exit s = .next { s with
        frames := rest
        regs := { r0 := s.regs.r0, r1 := .unwritten, r2 := .unwritten, r3 := .unwritten, r4 := .unwritten,
                  r5 := .unwritten, r6 := sv.r6, r7 := sv.r7, r8 := sv.r8, r9 := sv.r9, r10 := sv.r10 }
        pc := ret }) ∧
    (s.frames = { ret := ret, saved := none } :: rest →
      exec .exit s = .next { s with frames := rest, pc := ret })

/-- Under the linux policy and below the largest depth: after CALL_LOCAL, in any state whose frames are those the
call left, EXIT continues at the slot after the call, with the caller's frames and its cells R6 to R10, R1 to R5
unwritten, R0, data memory, platform state and status as the callee left them. Where that state has the caller's
parameters, as in every run, this is R277; where its parameters name another policy, that the frame and not the
policy decides is the model's choice, log 21. (R25, R272, R274, R277.) -/
def Obligations.CallThenReturn : Prop :=
  ∀ (s : State) (imm : Word32), s.params.framePolicy = .linux →
    (∀ limit, s.params.maxCallDepth = some limit → s.frames.length < limit) →
    ∃ t, exec (.callLocal imm) s = .next t ∧ ∀ u : State, u.frames = t.frames →
      ∃ w, exec .exit u = .next w ∧ w.pc = s.pc + 1 ∧ w.frames = s.frames ∧
        w.regs.r6 = s.regs.r6 ∧ w.regs.r7 = s.regs.r7 ∧ w.regs.r8 = s.regs.r8 ∧ w.regs.r9 = s.regs.r9 ∧
        w.regs.r10 = s.regs.r10 ∧ w.regs.r0 = u.regs.r0 ∧
        (∀ r ∈ [Reg.r1, .r2, .r3, .r4, .r5], w.reg r = .unwritten) ∧
        w.mem = u.mem ∧ w.plat = u.plat ∧ w.status = u.status

/-- For CALL_HELPER and CALL_BTF: when the platform has the id, the argument registers R1 to Rk are written, and
either the entry never refuses or the platform decides and does not refuse these arguments, the call answers the
state in which R0 is the helper's result, R1 to R5 are unwritten, R6 to R10 and the frames are unchanged, data
memory has the bytes the helper writes and every other byte as before, plat is the helper's, and pc is one slot
on. What the helper answers and whether the platform refuses are free values (log 15); the model's own count of
draws moves by 1, the model's choice (log 14). (R271, R273, R275, R276.) -/
def Obligations.HelperCallResult : Prop :=
  ∀ (s : State) (kind : CallKind) (imm : Word32) (h : Helper) (values : List Word),
    s.params.helper kind imm = some h →
    (h.refusing = .never ∨
      h.refusing = .platform ∧ Config.helperRefuses kind imm values s.mem s.plat s.draws = false) →
    ([Reg.r1, .r2, .r3, .r4, .r5].take h.arity.val).map s.reg = values.map Cell.written →
    let i : Instr := match kind with | .byId => .callHelper imm | .byBtf => .callBtf imm
    let ans := Config.helperAnswer kind imm values s.mem s.plat s.draws
    exec i s = .next { s with
      regs := { s.regs with r0 := .written ans.result, r1 := .unwritten, r2 := .unwritten, r3 := .unwritten,
                            r4 := .unwritten, r5 := .unwritten }
      mem := s.mem.setAll ans.writes
      plat := ans.plat
      draws := s.draws + 1
      pc := s.pc + 1 } ∧
    (∀ a : Nat, (∀ w ∈ ans.writes, w.1.toNat ≠ a) → (s.mem.setAll ans.writes).get a = s.mem.get a)

/-- For CALL_HELPER and CALL_BTF with the id known and the argument registers written: when the entry is a
refusal, or the platform refuses the arguments, only the status changes, to Faulted HelperFault(imm); when the
platform does not refuse, the call does not fault. The platform's refusal is a free value (log 15). (R271, R275,
R390.) -/
def Obligations.HelperRefusal : Prop :=
  ∀ (s : State) (kind : CallKind) (imm : Word32) (h : Helper) (values : List Word),
    s.params.helper kind imm = some h →
    ([Reg.r1, .r2, .r3, .r4, .r5].take h.arity.val).map s.reg = values.map Cell.written →
    let i : Instr := match kind with | .byId => .callHelper imm | .byBtf => .callBtf imm
    let refused : Out := .next { s with status := .faulted (.helperFault imm) s.pc }
    (h.refusing = .always → exec i s = refused) ∧
    (h.refusing = .platform →
      if Config.helperRefuses kind imm values s.mem s.plat s.draws then exec i s = refused
      else ∃ t, exec i s = .next t ∧ t.status = s.status ∧ t.pc = s.pc + 1)

/-- CALL_HELPER with an imm that HELPERS does not have, and CALL_BTF with one that BTF_HELPERS does not have,
change only the status, to Faulted UnknownHelper(imm), whatever the argument registers hold. (R389.) -/
def Obligations.UnknownHelperFault : Prop :=
  ∀ (s : State) (imm : Word32),
    (lookup s.params.helpers imm = none →
      exec (.callHelper imm) s = .next { s with status := .faulted (.unknownHelper imm) s.pc }) ∧
    (lookup s.params.btfHelpers imm = none →
      exec (.callBtf imm) s = .next { s with status := .faulted (.unknownHelper imm) s.pc })

/-- With the base register written, the address a multiple of n, and one readable region holding the n bytes: each
load writes to its destination the bytes at base + offset (modulo 2^64) assembled in the host's byte order, zero-
extended for MEM and sign-extended for MEMSX, goes one slot on, and changes nothing else of the spec's state (the
model's count of draws, log 14, moves by n). (R40, R43, R45, R53, R307, R292, R293, R294, R295, R296, R297, R298.)
-/
def Obligations.LoadResult : Prop :=
  ∀ (s : State) (dst src : Reg) (off : Offset) (base : Word), s.reg src = .written base →
    let ea : Word := base + off.signExtend 64
    let y := fun k : Nat => s.byteAt k (ea.toNat + k)
    let le := s.params.hostEndian = .little
    let half : BitVec 16 := if le then y 1 ++ y 0 else y 0 ++ y 1
    let word : Word32 := if le then y 3 ++ y 2 ++ y 1 ++ y 0 else y 0 ++ y 1 ++ y 2 ++ y 3
    let double : Word := if le then y 7 ++ y 6 ++ y 5 ++ y 4 ++ y 3 ++ y 2 ++ y 1 ++ y 0
      else y 0 ++ y 1 ++ y 2 ++ y 3 ++ y 4 ++ y 5 ++ y 6 ++ y 7
    ∀ i n v, (i, n, v) ∈ ([
      (.ldxb dst src off, 1, (y 0).setWidth 64), (.ldxh dst src off, 2, half.setWidth 64),
      (.ldxw dst src off, 4, word.setWidth 64), (.ldxdw dst src off, 8, double),
      (.ldxsb dst src off, 1, (y 0).signExtend 64), (.ldxsh dst src off, 2, half.signExtend 64),
      (.ldxsw dst src off, 4, word.signExtend 64)] : List (Instr × Nat × Word)) →
      ea.toNat % n = 0 → ea.toNat + n ≤ 2 ^ 64 →
      (∃ r ∈ s.params.regions, r.readable = true ∧ r.base.toNat ≤ ea.toNat ∧
        ea.toNat + n ≤ r.base.toNat + r.len) →
      exec i s = .next { s with regs := s.regs.set dst (.written v), pc := s.pc + 1, draws := s.draws + n }

/-- A byte of no shared region reads as the byte last written, whatever the draw and the count of draws; where
nothing has written it, it reads as the launch byte of its address, a free value (log 12); a byte of a shared
region is the oracle's next, a free value (log 13). (R29, R53, R56.) -/
def Obligations.ByteRead : Prop :=
  ∀ (s : State) (k a : Nat),
    ((∀ r ∈ s.params.regions, r.sharing = .shared → ¬(r.base.toNat ≤ a ∧ a < r.base.toNat + r.len)) →
      (∀ b, s.mem.get a = some b → s.byteAt k a = b) ∧
      (s.mem.get a = none → s.byteAt k a = Config.launchByte a) ∧
      (∀ d j, ({ s with draws := d } : State).byteAt j a = s.byteAt k a)) ∧
    ((∃ r ∈ s.params.regions, r.sharing = .shared ∧ r.base.toNat ≤ a ∧ a < r.base.toNat + r.len) →
      s.byteAt k a = Config.sharedByte (s.draws + k))

/-- With the registers read written, the address a multiple of n, and one writable region holding the n bytes:
each store puts the low 8n bits of the sign-extended imm (ST) or of x[src] (STX) at base + offset (modulo 2^64) in
the host's byte order; every other byte, every register and everything else but pc is unchanged. (R43, R45, R54,
R307, R299, R300, R301, R302, R303, R304, R305, R306.) -/
def Obligations.StoreResult : Prop :=
  ∀ (s : State) (dst src : Reg) (off : Offset) (imm : Word32) (base x : Word),
    s.reg dst = .written base → s.reg src = .written x →
    let ea : Word := base + off.signExtend 64
    let le := s.params.hostEndian = .little
    let w : Word := imm.signExtend 64
    ∀ i n v, (i, n, v) ∈ ([
      (.stb dst off imm, 1, w), (.sth dst off imm, 2, w), (.stw dst off imm, 4, w), (.stdw dst off imm, 8, w),
      (.stxb dst src off, 1, x), (.stxh dst src off, 2, x), (.stxw dst src off, 4, x),
      (.stxdw dst src off, 8, x)] : List (Instr × Nat × Word)) →
      ea.toNat % n = 0 → ea.toNat + n ≤ 2 ^ 64 →
      (∃ r ∈ s.params.regions, r.writable = true ∧ r.base.toNat ≤ ea.toNat ∧
        ea.toNat + n ≤ r.base.toNat + r.len) →
      ∃ m, exec i s = .next { s with mem := m, pc := s.pc + 1 } ∧
        (∀ k < n, m.get (ea.toNat + k) =
          some (if le then v.extractLsb' (8 * k) 8 else v.extractLsb' (8 * (n - 1 - k)) 8)) ∧
        (∀ a, a < ea.toNat ∨ ea.toNat + n ≤ a → m.get a = s.mem.get a)

/-- For every load, store and atomic, with the registers it reads written and its address no multiple of its
width: when it is an atomic, or STRICT_ALIGNMENT is true, only the status changes, to Faulted Misaligned(ea, n) at
pc, whether or not a region admits the access. (R387.) -/
def Obligations.MisalignedFault : Prop :=
  ∀ (s : State) (i : Instr) (acc : Access) (base : Word), memoryAccess i = some acc →
    (∀ r ∈ readRegs s i, s.reg r ≠ .unwritten) → s.reg acc.base = .written base →
    let ea : Word := base + acc.off.signExtend 64
    ea.toNat % acc.size ≠ 0 → (acc.kind = .atomic ∨ s.params.strictAlignment = true) →
      exec i s = .next { s with status := .faulted (.misaligned ea acc.size) s.pc }

/-- For every load, store and atomic, with the registers it reads written and its address a multiple of its width:
when no one region holds the bytes with the right the kind needs (read, write, or both for an atomic), only the
status changes, to Faulted MemFault(ea, n, kind) at pc. (R43, R45, R53, R54, R55, R388.) -/
def Obligations.MemFaultFault : Prop :=
  ∀ (s : State) (i : Instr) (acc : Access) (base : Word), memoryAccess i = some acc →
    (∀ r ∈ readRegs s i, s.reg r ≠ .unwritten) → s.reg acc.base = .written base →
    let ea : Word := base + acc.off.signExtend 64
    ea.toNat % acc.size = 0 →
    (∀ r ∈ s.params.regions, r.base.toNat ≤ ea.toNat → ea.toNat + acc.size ≤ r.base.toNat + r.len →
      ¬((acc.kind ≠ .write → r.readable = true) ∧ (acc.kind ≠ .read → r.writable = true))) →
      exec i s = .next { s with status := .faulted (.memFault ea acc.size acc.kind) s.pc }

/-- With STRICT_ALIGNMENT false, at an address that is no multiple of the width, with the registers read written.
A load whose bytes are each admitted for reading writes to its destination the bytes at base + offset + k
assembled in the host's byte order and extended as its aligned form does; pc goes one slot on, nothing else of the
spec's state changes, and the model's count of draws moves by n (the model's choice, log 14). A store whose bytes
are each admitted for writing lays the low 8n bits of its operand down at base + offset + k in the host's byte
order; every other byte, every register and everything else but pc is unchanged. When byte k of a load or store is
the first that is not admitted, only the status changes, to Faulted MemFault(that byte, 1, kind): its info, and
that no byte before it is stored, are the model's reading (DEDUCED), log 19. (R40, R43, R44, R45, R53, R54, R307,
R381, R388.) -/
def Obligations.BytewiseAccess : Prop :=
  ∀ s : State, s.params.strictAlignment = false →
    let le := s.params.hostEndian = .little
    let admitted := fun (kind : AccessKind) (a : Nat) => a < 2 ^ 64 ∧ ∃ r ∈ s.params.regions,
      r.base.toNat ≤ a ∧ a < r.base.toNat + r.len ∧
      (kind = .read → r.readable = true) ∧ (kind = .write → r.writable = true)
    (∀ (dst src : Reg) (off : Offset) (base : Word), s.reg src = .written base →
      let ea : Word := base + off.signExtend 64
      let y := fun k : Nat => s.byteAt k (ea.toNat + k)
      let half : BitVec 16 := if le then y 1 ++ y 0 else y 0 ++ y 1
      let word : Word32 := if le then y 3 ++ y 2 ++ y 1 ++ y 0 else y 0 ++ y 1 ++ y 2 ++ y 3
      let double : Word := if le then y 7 ++ y 6 ++ y 5 ++ y 4 ++ y 3 ++ y 2 ++ y 1 ++ y 0
        else y 0 ++ y 1 ++ y 2 ++ y 3 ++ y 4 ++ y 5 ++ y 6 ++ y 7
      ∀ i n v, (i, n, v) ∈ ([
        (.ldxh dst src off, 2, half.setWidth 64), (.ldxw dst src off, 4, word.setWidth 64),
        (.ldxdw dst src off, 8, double), (.ldxsh dst src off, 2, half.signExtend 64),
        (.ldxsw dst src off, 4, word.signExtend 64)] : List (Instr × Nat × Word)) →
        ea.toNat % n ≠ 0 → (∀ k < n, admitted .read (ea.toNat + k)) →
        exec i s = .next { s with regs := s.regs.set dst (.written v), pc := s.pc + 1, draws := s.draws + n }) ∧
    (∀ (dst src : Reg) (off : Offset) (imm : Word32) (base x : Word),
      s.reg dst = .written base → s.reg src = .written x →
      let ea : Word := base + off.signExtend 64
      let w : Word := imm.signExtend 64
      ∀ i n v, (i, n, v) ∈ ([
        (.sth dst off imm, 2, w), (.stw dst off imm, 4, w), (.stdw dst off imm, 8, w),
        (.stxh dst src off, 2, x), (.stxw dst src off, 4, x), (.stxdw dst src off, 8, x)] :
        List (Instr × Nat × Word)) →
        ea.toNat % n ≠ 0 → (∀ k < n, admitted .write (ea.toNat + k)) →
        ∃ m, exec i s = .next { s with mem := m, pc := s.pc + 1 } ∧
          (∀ k < n, m.get (ea.toNat + k) =
            some (if le then v.extractLsb' (8 * k) 8 else v.extractLsb' (8 * (n - 1 - k)) 8)) ∧
          (∀ a, a < ea.toNat ∨ ea.toNat + n ≤ a → m.get a = s.mem.get a)) ∧
    (∀ (i : Instr) (acc : Access) (base : Word), memoryAccess i = some acc → acc.kind ≠ .atomic →
      (∀ r ∈ readRegs s i, s.reg r ≠ .unwritten) → s.reg acc.base = .written base →
      let ea : Word := base + acc.off.signExtend 64
      ea.toNat % acc.size ≠ 0 → ∀ k < acc.size,
        (∀ j < k, admitted acc.kind (ea.toNat + j)) → ¬admitted acc.kind (ea.toNat + k) →
        exec i s = .next { s with
          status := .faulted (.memFault (ea + BitVec.ofNat 64 k) 1 acc.kind) s.pc })

/-- With the registers read written, natural alignment, and one readable and writable region holding the n bytes:
each simple atomic stores the W-bit sum, OR, AND or XOR of the old memory value and the low W bits of x[src];
every other byte and every register is unchanged; pc goes one slot on (the model's count of draws, log 14, moves
by n). (R55, R320, R321, R322, R325, R327, R329, R331, R335, R337, R339, R341.) -/
def Obligations.AtomicResult : Prop :=
  ∀ (s : State) (dst src : Reg) (off : Offset) (base x : Word),
    s.reg dst = .written base → s.reg src = .written x →
    let ea : Word := base + off.signExtend 64
    let y := fun k : Nat => s.byteAt k (ea.toNat + k)
    let le := s.params.hostEndian = .little
    let word : Word32 := if le then y 3 ++ y 2 ++ y 1 ++ y 0 else y 0 ++ y 1 ++ y 2 ++ y 3
    let double : Word := if le then y 7 ++ y 6 ++ y 5 ++ y 4 ++ y 3 ++ y 2 ++ y 1 ++ y 0
      else y 0 ++ y 1 ++ y 2 ++ y 3 ++ y 4 ++ y 5 ++ y 6 ++ y 7
    let x32 : Word32 := x.setWidth 32
    ∀ i n v, (i, n, v) ∈ ([
      (.aadd32 dst src off, 4, (word + x32).setWidth 64), (.aor32 dst src off, 4, (word ||| x32).setWidth 64),
      (.aand32 dst src off, 4, (word &&& x32).setWidth 64), (.axor32 dst src off, 4, (word ^^^ x32).setWidth 64),
      (.aadd64 dst src off, 8, double + x), (.aor64 dst src off, 8, double ||| x),
      (.aand64 dst src off, 8, double &&& x), (.axor64 dst src off, 8, double ^^^ x)] :
      List (Instr × Nat × Word)) →
      ea.toNat % n = 0 → ea.toNat + n ≤ 2 ^ 64 →
      (∃ r ∈ s.params.regions, r.readable = true ∧ r.writable = true ∧ r.base.toNat ≤ ea.toNat ∧
        ea.toNat + n ≤ r.base.toNat + r.len) →
      ∃ m, exec i s = .next { s with mem := m, pc := s.pc + 1, draws := s.draws + n } ∧
        (∀ k < n, m.get (ea.toNat + k) =
          some (if le then v.extractLsb' (8 * k) 8 else v.extractLsb' (8 * (n - 1 - k)) 8)) ∧
        (∀ a, a < ea.toNat ∨ ea.toNat + n ≤ a → m.get a = s.mem.get a)

/-- With the registers read written, natural alignment, and one readable and writable region holding the n bytes:
each fetching atomic stores f(old) (XCHG: the low W bits of x[src]) and then writes the old memory value, zero-
extended, to the source register; every other byte and register is unchanged; pc goes one slot on (the model's
count of draws, log 14, moves by n). It holds with the source as base register too. (R55, R323, R326, R328, R330,
R332, R333, R336, R338, R340, R342, R343.) -/
def Obligations.AtomicFetchResult : Prop :=
  ∀ (s : State) (dst src : Reg) (off : Offset) (base x : Word),
    s.reg dst = .written base → s.reg src = .written x →
    let ea : Word := base + off.signExtend 64
    let y := fun k : Nat => s.byteAt k (ea.toNat + k)
    let le := s.params.hostEndian = .little
    let word : Word32 := if le then y 3 ++ y 2 ++ y 1 ++ y 0 else y 0 ++ y 1 ++ y 2 ++ y 3
    let double : Word := if le then y 7 ++ y 6 ++ y 5 ++ y 4 ++ y 3 ++ y 2 ++ y 1 ++ y 0
      else y 0 ++ y 1 ++ y 2 ++ y 3 ++ y 4 ++ y 5 ++ y 6 ++ y 7
    let x32 : Word32 := x.setWidth 32
    ∀ i n v old, (i, n, v, old) ∈ ([
      (.aadd32Fetch dst src off, 4, (word + x32).setWidth 64, word.setWidth 64),
      (.aor32Fetch dst src off, 4, (word ||| x32).setWidth 64, word.setWidth 64),
      (.aand32Fetch dst src off, 4, (word &&& x32).setWidth 64, word.setWidth 64),
      (.axor32Fetch dst src off, 4, (word ^^^ x32).setWidth 64, word.setWidth 64),
      (.axchg32 dst src off, 4, x32.setWidth 64, word.setWidth 64),
      (.aadd64Fetch dst src off, 8, double + x, double), (.aor64Fetch dst src off, 8, double ||| x, double),
      (.aand64Fetch dst src off, 8, double &&& x, double), (.axor64Fetch dst src off, 8, double ^^^ x, double),
      (.axchg64 dst src off, 8, x, double)] : List (Instr × Nat × Word × Word)) →
      ea.toNat % n = 0 → ea.toNat + n ≤ 2 ^ 64 →
      (∃ r ∈ s.params.regions, r.readable = true ∧ r.writable = true ∧ r.base.toNat ≤ ea.toNat ∧
        ea.toNat + n ≤ r.base.toNat + r.len) →
      ∃ m, exec i s = .next { s with regs := s.regs.set src (.written old), mem := m, pc := s.pc + 1, draws := s.draws + n } ∧
        (∀ k < n, m.get (ea.toNat + k) =
          some (if le then v.extractLsb' (8 * k) 8 else v.extractLsb' (8 * (n - 1 - k)) 8)) ∧
        (∀ a, a < ea.toNat ∨ ea.toNat + n ≤ a → m.get a = s.mem.get a)

/-- With the three registers read written, natural alignment, and one readable and writable region holding the n
bytes: when the old memory value equals the low W bits of R0 the low W bits of x[src] are stored, else the old
value; in either case R0 receives the old value zero-extended and no other register changes; every other byte is
unchanged; pc goes one slot on (the model's count of draws, log 14, moves by n). (R55, R322, R324, R334, R344,
R345, R347.) -/
def Obligations.CompareExchangeResult : Prop :=
  ∀ (s : State) (dst src : Reg) (off : Offset) (base x c : Word),
    s.reg dst = .written base → s.reg src = .written x → s.reg .r0 = .written c →
    let ea : Word := base + off.signExtend 64
    let y := fun k : Nat => s.byteAt k (ea.toNat + k)
    let le := s.params.hostEndian = .little
    let word : Word32 := if le then y 3 ++ y 2 ++ y 1 ++ y 0 else y 0 ++ y 1 ++ y 2 ++ y 3
    let double : Word := if le then y 7 ++ y 6 ++ y 5 ++ y 4 ++ y 3 ++ y 2 ++ y 1 ++ y 0
      else y 0 ++ y 1 ++ y 2 ++ y 3 ++ y 4 ++ y 5 ++ y 6 ++ y 7
    ∀ i n v old, (i, n, v, old) ∈ ([
      (.acmpxchg32 dst src off, 4,
        (if word = c.setWidth 32 then x.setWidth 32 else word).setWidth 64, word.setWidth 64),
      (.acmpxchg64 dst src off, 8, if double = c then x else double, double)] :
      List (Instr × Nat × Word × Word)) →
      ea.toNat % n = 0 → ea.toNat + n ≤ 2 ^ 64 →
      (∃ r ∈ s.params.regions, r.readable = true ∧ r.writable = true ∧ r.base.toNat ≤ ea.toNat ∧
        ea.toNat + n ≤ r.base.toNat + r.len) →
      ∃ m, exec i s = .next { s with regs := s.regs.set .r0 (.written old), mem := m, pc := s.pc + 1, draws := s.draws + n } ∧
        (∀ k < n, m.get (ea.toNat + k) =
          some (if le then v.extractLsb' (8 * k) 8 else v.extractLsb' (8 * (n - 1 - k)) 8)) ∧
        (∀ a, a < ea.toNat ∨ ea.toNat + n ≤ a → m.get a = s.mem.get a)

/-- In every state LDDW writes the 64-bit concatenation of next_imm (high half) and imm (low half) to its
destination, moves pc by two, and changes nothing else. (R350, R352.) -/
def Obligations.LddwResult : Prop :=
  ∀ (s : State) (dst : Reg) (imm nextImm : Word32),
    exec (.lddw dst imm nextImm) s =
      .next { s with regs := s.regs.set dst (.written (nextImm ++ imm)), pc := s.pc + 2 }

/-- Where the platform function of the form is defined at its argument (for the two value forms, MAP_VAL of the
map plus the signed next_imm modulo 2^64), the destination receives that address, pc moves by two, and nothing
else changes. (R350, R351, R353, R354, R355, R356, R357, R358.) -/
def Obligations.AddressResult : Prop :=
  ∀ (s : State) (dst : Reg) (imm nextImm : Word32),
    let val := fun map : Option Word =>
      map.bind fun m => (lookup s.params.mapVal m).map fun area => area + nextImm.signExtend 64
    ∀ i address, (i, address) ∈ ([
      (.ldMapFd dst imm, lookup s.params.mapByFd imm),
      (.ldMapValFd dst imm nextImm, val (lookup s.params.mapByFd imm)),
      (.ldVarAddr dst imm, lookup s.params.varAddr imm),
      (.ldCodeAddr dst imm, lookup s.params.codeAddr (s.pc, imm)),
      (.ldMapIdx dst imm, lookup s.params.mapByIdx imm),
      (.ldMapValIdx dst imm nextImm, val (lookup s.params.mapByIdx imm))] : List (Instr × Option Word)) →
      ∀ v, address = some v →
        exec i s = .next { s with regs := s.regs.set dst (.written v), pc := s.pc + 2 }

/-- Where the platform function of one of the six address forms is not defined at its argument, MAP_VAL of a map
without a value area included, only the status changes, to Faulted UnresolvedAddress at pc. (R392.) -/
def Obligations.UnresolvedAddressFault : Prop :=
  ∀ (s : State) (dst : Reg) (imm nextImm : Word32),
    let val := fun map : Option Word =>
      map.bind fun m => (lookup s.params.mapVal m).map fun area => area + nextImm.signExtend 64
    ∀ i address, (i, address) ∈ ([
      (.ldMapFd dst imm, lookup s.params.mapByFd imm),
      (.ldMapValFd dst imm nextImm, val (lookup s.params.mapByFd imm)),
      (.ldVarAddr dst imm, lookup s.params.varAddr imm),
      (.ldCodeAddr dst imm, lookup s.params.codeAddr (s.pc, imm)),
      (.ldMapIdx dst imm, lookup s.params.mapByIdx imm),
      (.ldMapValIdx dst imm nextImm, val (lookup s.params.mapByIdx imm))] : List (Instr × Option Word)) →
      address = none → exec i s = .next { s with status := .faulted .unresolvedAddress s.pc }

/-- Executing any of LDABSW, LDABSH, LDABSB, LDINDW, LDINDH, LDINDB changes only the status: to Faulted
Unsupported when packet is in GROUPS, to Faulted IllegalInstruction when it is not; no register is read. That no
register is read is the model's reading (DEDUCED), log 20; where packet is not in GROUPS a run takes the fault at
the fetch already, and that exec takes it too is the model's choice, log 25. (R370, R371, R372, R373, R374, R375,
R376, R393.) -/
def Obligations.LegacyPacketStops : Prop :=
  ∀ (s : State) (src : Reg) (imm : Word32),
    ∀ i ∈ ([.ldabsw imm, .ldabsh imm, .ldabsb imm, .ldindw src imm, .ldindh src imm, .ldindb src imm] :
      List Instr),
      (s.params.groups.packet = true → exec i s = .next { s with status := .faulted .unsupported s.pc }) ∧
      (s.params.groups.packet = false →
        exec i s = .next { s with status := .faulted .illegalInstruction s.pc })

/-- For every instruction: when a register it reads is unwritten and those it reads before it are written, only
the status changes, to Faulted UninitRegister of that register at pc; when all it reads are written, executing it
in a running state raises no UninitRegister. The registers read and their order are Table R22-T. (R386.) -/
def Obligations.UnwrittenReadFault : Prop :=
  ∀ (s : State) (i : Instr),
    (∀ before r after, readRegs s i = before ++ r :: after → (∀ q ∈ before, s.reg q ≠ .unwritten) →
      s.reg r = .unwritten → exec i s = .next { s with status := .faulted (.uninitRegister r) s.pc }) ∧
    (s.status = .running → (∀ q ∈ readRegs s i, s.reg q ≠ .unwritten) →
      ∀ t r p, exec i s = .next t → t.status ≠ .faulted (.uninitRegister r) p)

/-- In a running state with pc inside the program and not at a second slot: when the slots from pc on decode to a
well-formed instruction, the step is the execution of that instruction, with nothing around it. (R23, R24, R72.)
-/
def Obligations.StepRunsDecodedInstruction : Prop :=
  ∀ (s : State) (i : Instr), s.status = .running → 0 ≤ s.pc → s.pc < s.params.program.length →
    inSecondSlots false s.params.program s.pc.toNat = false →
    decode s.params.hostEndian s.params.strictUnused (s.params.program.drop s.pc.toNat) = .ok i →
    wellFormed s.params i = true → step s = exec i s

/-- In a running state with pc below 0 or at or beyond the number of slots, the step changes only the status, to
Faulted PcOutOfRange(pc). (R383.) -/
def Obligations.PcOutOfRangeFault : Prop :=
  ∀ s : State, s.status = .running → (s.pc < 0 ∨ s.pc ≥ s.params.program.length) →
    step s = .next { s with status := .faulted (.pcOutOfRange s.pc) s.pc }

/-- In a running state with pc inside the program at a second slot, the step changes only the status, to Faulted
JumpIntoWide. The second-slot set is that of a scan from slot 0: slot 0 is not in it, and slot p + 1 is exactly
when slot p is not and its opcode byte is 0x18. (R385.) -/
def Obligations.JumpIntoWideFault : Prop :=
  (∀ s : State, s.status = .running → 0 ≤ s.pc → s.pc < s.params.program.length →
    inSecondSlots false s.params.program s.pc.toNat = true →
    step s = .next { s with status := .faulted .jumpIntoWide s.pc }) ∧
  (∀ program : List Slot, inSecondSlots false program 0 = false ∧
    ∀ p, (h : p + 1 < program.length) →
      (inSecondSlots false program (p + 1) = true ↔
        inSecondSlots false program p = false ∧ program[p].extractLsb' 0 8 = 0x18#8))

/-- In a running state with pc inside the program and not at a second slot: when the slots do not decode, or
decode to an instruction whose conformance group is not in GROUPS, the step changes only the status, to Faulted
IllegalInstruction at pc. (R66, R67, R72, R75, R76, R77, R78, R384.) -/
def Obligations.UnsupportedGroupIllegal : Prop :=
  ∀ s : State, s.status = .running → 0 ≤ s.pc → s.pc < s.params.program.length →
    inSecondSlots false s.params.program s.pc.toNat = false →
    (∀ err, decode s.params.hostEndian s.params.strictUnused (s.params.program.drop s.pc.toNat) = .error err →
      step s = .next { s with status := .faulted .illegalInstruction s.pc }) ∧
    (∀ i, decode s.params.hostEndian s.params.strictUnused (s.params.program.drop s.pc.toNat) = .ok i →
      s.params.groups.has (groupOf i) = false →
      step s = .next { s with status := .faulted .illegalInstruction s.pc })

/-- In a running state with pc inside the program and not at a second slot, with FP_READONLY true: when the slots
decode to an instruction whose result register is R10 (the destination, or the source of a fetching atomic), the
step changes only the status, to Faulted IllegalInstruction at pc. With FP_READONLY false only the conformance
group decides. (R86.) -/
def Obligations.FramePointerWriteIllegal : Prop :=
  ∀ (s : State) (i : Instr),
    (s.params.fpReadonly = true → s.status = .running → 0 ≤ s.pc → s.pc < s.params.program.length →
      inSecondSlots false s.params.program s.pc.toNat = false →
      decode s.params.hostEndian s.params.strictUnused (s.params.program.drop s.pc.toNat) = .ok i →
      writtenReg i = some .r10 → step s = .next { s with status := .faulted .illegalInstruction s.pc }) ∧
    (s.params.fpReadonly = false → wellFormed s.params i = s.params.groups.has (groupOf i))

/-- Every entry state is running. A running state has a next state; it is running, or faulted, or exited, and
exited only when the instruction fetched is EXIT, no frame is left and R0 holds the result. From an exited or
faulted state no step answers a next state. (R30.) -/
def Obligations.RunStatus : Prop :=
  (∀ p g plat, (State.entry p g plat).status = .running) ∧
  (∀ s : State, s.status = .running → ∃ t, step s = .next t ∧
    (t.status = .running ∨
     (∃ c, t.status = .faulted c s.pc) ∨
     (∃ v, t.status = .exited v ∧ s.fetch = .ok .exit ∧ s.frames = [] ∧ s.reg .r0 = .written v))) ∧
  (∀ s : State, s.status ≠ .running → ∀ t, step s ≠ .next t)

/-- For every instruction, in every running state: if executing it, or a step, leads to a faulted state, then that
state is the one before with only the status changed, and the slot index recorded is that of the faulting
instruction; a faulted state has no further step. (R381.) -/
def Obligations.FaultChangesOnlyStatus : Prop :=
  (∀ (s t : State) (i : Instr) (c : Cause) (p : Int), s.status = .running → exec i s = .next t →
    t.status = .faulted c p → p = s.pc ∧ t = { s with status := .faulted c s.pc }) ∧
  (∀ (s t : State) (c : Cause) (p : Int), s.status = .running → step s = .next t →
    t.status = .faulted c p → p = s.pc ∧ t = { s with status := .faulted c s.pc }) ∧
  (∀ (s : State) (c : Cause) (p : Int), s.status = .faulted c p → ∀ t, step s ≠ .next t)

/-- For every instruction and next state: outside the calls and EXIT every register but the instruction's own
result register is unchanged (destination; source of a fetching atomic; R0 of CMPXCHG); a helper call leaves R6 to
R10; CALL_LOCAL leaves R1 to R5; EXIT leaves R0, and at depth 0 every register. (R20, R22, R43, R275, R277, R321.)
-/
def Obligations.RegisterFrame : Prop :=
  ∀ (s t : State) (i : Instr), exec i s = .next t →
    ((∀ m, i ≠ .callHelper m ∧ i ≠ .callBtf m ∧ i ≠ .callLocal m) → i ≠ .exit →
      ∀ r, writtenReg i ≠ some r → t.reg r = s.reg r) ∧
    ((∃ m, i = .callHelper m ∨ i = .callBtf m) →
      ∀ r ∈ [Reg.r6, .r7, .r8, .r9, .r10], t.reg r = s.reg r) ∧
    ((∃ m, i = .callLocal m) → ∀ r ∈ [Reg.r1, .r2, .r3, .r4, .r5], t.reg r = s.reg r) ∧
    (i = .exit → t.reg .r0 = s.reg .r0 ∧ (s.frames = [] → t.regs = s.regs))

/-- For every instruction and next state: one that is no store, atomic or helper call leaves every byte of memory;
a store or atomic leaves every byte outside the n bytes at base + offset, the address its meaning uses. (R43, R53,
R54, R55, R56.) -/
def Obligations.MemoryFrame : Prop :=
  ∀ (s t : State) (i : Instr), exec i s = .next t →
    ((∀ m, i ≠ .callHelper m ∧ i ≠ .callBtf m) →
      (∀ acc, memoryAccess i = some acc → acc.kind = .read) → ∀ a, t.mem.get a = s.mem.get a) ∧
    (∀ acc base, memoryAccess i = some acc → acc.kind ≠ .read → s.reg acc.base = .written base →
      ∀ a, (a < (effectiveAddress base acc.off).toNat ∨ (effectiveAddress base acc.off).toNat + acc.size ≤ a) →
        t.mem.get a = s.mem.get a)

/-- For every instruction and next state: the launch parameters (program text included) are unchanged; plat is
unchanged but by helper calls; the frames are unchanged but by CALL_LOCAL and EXIT; and an instruction that writes
a register or accesses memory, or a helper call, that does not fault moves pc by its own number of slots. (R23,
R24, R25, R29, R49, R415.) -/
def Obligations.OtherStateFrame : Prop :=
  ∀ (s t : State) (i : Instr), exec i s = .next t →
    t.params = s.params ∧
    ((∀ m, i ≠ .callHelper m ∧ i ≠ .callBtf m) → t.plat = s.plat) ∧
    ((∀ m, i ≠ .callLocal m) → i ≠ .exit → t.frames = s.frames) ∧
    (s.status = .running → t.status = .running →
      (writtenReg i ≠ none ∨ memoryAccess i ≠ none ∨ ∃ m, i = .callHelper m ∨ i = .callBtf m) →
      t.pc = s.pc + (encode s.params.hostEndian i).length)

/-- From every state that meets the invariant (memory in canonical form, call depth within MAX_CALL_DEPTH, every
frame saving what the policy says, every return slot one past a slot of the program), a step that answers a next
state leads to one that meets it, for every instruction, helper call and fault. (R25, R28, R272, R276, R277,
R279.) -/
def Obligations.InvariantKept : Prop :=
  ∀ s t : State, Inv s → step s = .next t → Inv t

/-- The invariant that every step keeps holds of the entry state of every launch whose parameters are well formed,
whatever the program, the entry registers and the platform state; and of the reset state, one of them. (R25, R28,
R31, R45, R410.) -/
def Obligations.InvariantAtEntry : Prop :=
  (∀ (p : Params) (g : Regs) (plat : List Byte), wellFormedParams p = true → Inv (State.entry p g plat)) ∧
    Inv State.reset

/-- Under FP_READONLY and the linux policy: an entry state whose R10 is FRAME_TOP(0) meets the invariant that R10
is FRAME_TOP of the call depth and every saved frame holds that of its own depth, and every step from a state that
meets it leads to one that meets it. (R21, R31, R86, R277.) -/
def Obligations.FramePointerKept : Prop :=
  (∀ (p : Params) (g : Regs) (plat : List Byte), p.fpReadonly = true → p.framePolicy = .linux →
    g.r10 = .written (p.frameTop 0) → FramePointerInv (State.entry p g plat)) ∧
  (∀ s t : State, FramePointerInv s → step s = .next t → FramePointerInv t)

/-- For every running state whose step is not a helper call: a byte of memory whose written value differs after
the step lies in a region of REGIONS that is writable. (R45, R52, R54, R55, R276, R400.) -/
def Obligations.WritesStayInRegions : Prop :=
  ∀ s t : State, step s = .next t →
    (∀ m, s.fetch ≠ .ok (.callHelper m) ∧ s.fetch ≠ .ok (.callBtf m)) →
    ∀ a, t.mem.get a ≠ s.mem.get a →
      ∃ r ∈ s.params.regions, r.writable = true ∧ r.base.toNat ≤ a ∧ a < r.base.toNat + r.len

/-- For every instruction with every operand value, on either host, strict or not, whatever slots follow: the
decoder reads from the encoder's slots the same instruction. (R60, R61, R63, R64, R65, R67, R72, R75, R78.) -/
def Obligations.DecodeEncode : Prop :=
  ∀ (e : Endian) (strict : Bool) (i : Instr) (rest : List Slot), decode e strict (encode e i ++ rest) = .ok i

/-- With STRICT_UNUSED, on either host: when slots decode to an instruction, they begin with exactly the slots the
encoder writes for it, so every other word (a reserved opcode or selecting value, a register number above 10, a
non-zero unused field or reserved half, a missing second slot) is refused. (R66, R67, R72, R75, R76, R78, R109,
R322.) -/
def Obligations.DecodeSound : Prop :=
  ∀ (e : Endian) (slots : List Slot) (i : Instr), decode e true slots = .ok i →
    ∃ rest, slots = encode e i ++ rest

/-- The bytes 07 01 00 00 44 33 22 11 on a little-endian host and 07 10 00 00 11 22 33 44 on a big-endian host
both decode to ADD64_K r1, 0x11223344, whose canonical word is 0x1122334400000107; a jump, a store, an atomic, a
call and a wide word decode as their rules say. (R65, R85, R243, R272, R299, R344, R352.) -/
def Obligations.EncodingExample : Prop :=
  decode .little true [0x1122334400000107#64] = .ok (.add64K .r1 0x11223344#32) ∧
  decode .big true [0x4433221100001007#64] = .ok (.add64K .r1 0x11223344#32) ∧
  canonicalWord (encodeFields (.add64K .r1 0x11223344#32)) = 0x1122334400000107#64 ∧
  decodeTableWord 64 0x00000000fffd0155 = some (.jne64K .r1 0#32 0xfffd#16) ∧
  decodeTableWord 64 0xfffffffe00040162 = some (.stw .r1 4#16 0xfffffffe#32) ∧
  decodeTableWord 64 0x000000f1000821db = some (.acmpxchg64 .r1 .r2 8#16) ∧
  decodeTableWord 64 0x0000000300001085 = some (.callLocal 3#32) ∧
  decodeTableWord 128 0x11223344000000005566778800000118 = some (.lddw .r1 0x55667788#32 0x11223344#32)

/-- Of the 256 opcode bytes exactly 125 are the opcode byte of some instruction, and a slot with any other opcode
byte is refused as a reserved opcode, strict or not, whatever its other fields and the slot after it hold. (R75,
R384, R417.) -/
def Obligations.ReservedOpcodes : Prop :=
  (∀ (f : Fields) (strict : Bool) (next : Option Fields), (∀ i, (encodeFields i).opcode ≠ f.opcode) →
    f.decode strict next = .error .reservedOpcode) ∧
  ∃ assigned : List (BitVec 8), assigned.length = 125 ∧ assigned.Nodup ∧
    ∀ o, o ∈ assigned ↔ ∃ i, (encodeFields i).opcode = o

/-- After the eight bytes of v are stored at a, with the bytes in the address space and in no shared region: a
read of one byte at a + k gives v[8k+7:8k] on a little-endian host and v[63-8k:56-8k] on a big-endian one; and for
each width n a read of n bytes after a store of n bytes there gives the low 8n bits of v zero-extended. (R40, R47,
R53, R54, R57.) -/
def Obligations.MixedWidthAccess : Prop :=
  ∀ (s : State) (a v : Word), a.toNat + 8 ≤ 2 ^ 64 →
    (∀ k < 8, s.isShared (a.toNat + k) = false) →
    (∀ k < 8, (s.stored a 8 v).valueAt (a + BitVec.ofNat 64 k) 1 =
      (if s.params.hostEndian = .little then v.extractLsb' (8 * k) 8
       else v.extractLsb' (56 - 8 * k) 8).setWidth 64) ∧
    (∀ n ∈ [1, 2, 4, 8], (s.stored a n v).valueAt a n = (v.setWidth (8 * n)).setWidth 64)

/-- For a step that is not a helper call and whose instruction, when it is a load or an atomic, has none of its n
bytes in a shared region, whatever other regions are shared: from two states that differ only in the count of
oracle draws, the steps lead to states that differ only in that count, which moves by the same amount in both.
R423 counts a read of a private byte nothing has written as a draw too; here it is a free value of its address,
the same in both runs, the model's choice (log 12). The count is the model's own field (log 14). (R29, R53, R423.)
-/
def Obligations.OracleIndependence : Prop :=
  ∀ (s t : State) (d : Nat),
    (∀ m, s.fetch ≠ .ok (.callHelper m) ∧ s.fetch ≠ .ok (.callBtf m)) →
    (∀ i acc base, s.fetch = .ok i → memoryAccess i = some acc → acc.kind ≠ .write →
      s.reg acc.base = .written base → ∀ k < acc.size, ∀ r ∈ s.params.regions, r.sharing = .shared →
        let a := (base + acc.off.signExtend 64).toNat + k
        ¬(r.base.toNat ≤ a ∧ a < r.base.toNat + r.len)) →
    step s = .next t →
    s.draws ≤ t.draws ∧
      step { s with draws := d } = .next { t with draws := d + (t.draws - s.draws) }

/-- Without STRICT_UNUSED, on either host: slots decode to an instruction exactly when their first slot agrees
with the encoder's in the opcode byte and in every field the instruction uses (selecting fields and operands,
Table R78-T), and, for a wide one, there is a second slot whose reserved half is zero and whose next_imm agrees
where the form uses it. The other fields may hold anything; a reserved selecting value, a register number above
10, a missing second slot or a reserved half that is not zero is still refused. (R66, R67, R72, R75, R76, R78,
R109, R201, R278, R322, R350.) -/
def Obligations.DecodeLenient : Prop :=
  ∀ (e : Endian) (slots : List Slot) (i : Instr), decode e false slots = .ok i ↔
    ∃ x rest, slots = x :: rest ∧ (fieldsOf e x).keep (usedFields i) = encodeFields i ∧
      ∀ nextImm, encodeNext i = some nextImm →
        ∃ y, rest.head? = some y ∧ (fieldsOf e y).keep (usedFields i).second = secondFields nextImm
end

