-- ==== Sys2Proof/Laws/Memory.lean ====
section
/-!
SUPPORT. Data memory: a read after a write, what a write leaves alone, and the canonical form, which every memory
operation keeps. Bytes and the numbers they make.
-/

namespace Sys2Proof.Machine

@[simp] theorem Memory.get_set_self (m : Memory) (a : Nat) (b : Byte) : (Memory.set m a b).get a = some b := by
  induction m with
  | nil => simp [Memory.set, Memory.get]
  | cons c m ih =>
    obtain ⟨k, d⟩ := c
    simp only [Memory.set]
    split
    · simp [Memory.get]
    · split
      · simp [Memory.get]
      · rename_i h1 h2
        simp only [Memory.get]
        rw [if_neg (fun h => h2 h.symm), ih]

@[simp] theorem Memory.get_set_ne (m : Memory) {a c : Nat} (b : Byte) (h : c ≠ a) :
    (Memory.set m a b).get c = Memory.get m c := by
  induction m with
  | nil => simp [Memory.set, Memory.get, Ne.symm h]
  | cons x m ih =>
    obtain ⟨k, d⟩ := x
    simp only [Memory.set]
    split
    · simp [Memory.get, Ne.symm h]
    · split
      · rename_i _ h2
        subst h2
        simp [Memory.get, Ne.symm h]
      · simp only [Memory.get]
        rw [ih]

/-- A byte outside the bytes written reads as before. -/
theorem Memory.get_setBytes_outside (m : Memory) (bs : List Byte) (a c : Nat) (h : c < a ∨ a + bs.length ≤ c) :
    (Memory.setBytes m a bs).get c = Memory.get m c := by
  induction bs generalizing m a with
  | nil => rfl
  | cons b bs ih =>
    simp only [List.length_cons] at h
    rw [Memory.setBytes, ih _ _ (by omega), Memory.get_set_ne _ _ (by omega)]

/-- The `k`-th byte written reads back. -/
theorem Memory.get_setBytes_inside (m : Memory) (bs : List Byte) (a k : Nat) (h : k < bs.length) :
    (Memory.setBytes m a bs).get (a + k) = some bs[k] := by
  induction bs generalizing m a k with
  | nil => exact absurd h (Nat.not_lt_zero k)
  | cons b bs ih =>
    rw [Memory.setBytes]
    cases k with
    | zero =>
      rw [Memory.get_setBytes_outside _ _ _ _ (by omega)]
      simp
    | succ k =>
      have hk : k < bs.length := by simpa using h
      have := ih (Memory.set m a b) (a + 1) k hk
      rw [show a + (k + 1) = a + 1 + k by omega, this]
      simp

theorem Memory.wfFrom_mono {m : Memory} {lo hi : Nat} (h : lo ≤ hi) (hm : Memory.wfFrom hi m = true) :
    Memory.wfFrom lo m = true := by
  cases m with
  | nil => rfl
  | cons c m =>
    simp only [Memory.wfFrom, Bool.and_eq_true, decide_eq_true_eq] at hm ⊢
    exact ⟨⟨by omega, hm.1.2⟩, hm.2⟩

theorem Memory.wfFrom_set {m : Memory} {lo a : Nat} (b : Byte) (hm : Memory.wfFrom lo m = true) (hlo : lo ≤ a)
    (ha : a < 2 ^ 64) : Memory.wfFrom lo (Memory.set m a b) = true := by
  induction m generalizing lo with
  | nil =>
    simp only [Memory.set, Memory.wfFrom, Bool.and_true, Bool.and_eq_true, decide_eq_true_eq]
    exact ⟨hlo, ha⟩
  | cons c m ih =>
    obtain ⟨k, d⟩ := c
    simp only [Memory.wfFrom, Bool.and_eq_true, decide_eq_true_eq] at hm
    simp only [Memory.set]
    split
    · simp only [Memory.wfFrom, Bool.and_eq_true, decide_eq_true_eq]
      exact ⟨⟨hlo, ha⟩, ⟨by omega, hm.1.2⟩, hm.2⟩
    · split
      · rename_i _ h2
        subst h2
        simp only [Memory.wfFrom, Bool.and_eq_true, decide_eq_true_eq]
        exact ⟨⟨hlo, ha⟩, hm.2⟩
      · simp only [Memory.wfFrom, Bool.and_eq_true, decide_eq_true_eq]
        exact ⟨hm.1, ih hm.2 (by omega)⟩

/-- Writing a byte at a 64-bit address keeps the canonical form. -/
theorem Memory.wf_set {m : Memory} {a : Nat} (b : Byte) (hm : m.wf = true) (ha : a < 2 ^ 64) :
    (Memory.set m a b).wf = true :=
  Memory.wfFrom_set b hm (Nat.zero_le a) ha

/-- Writing bytes inside the address space keeps the canonical form. -/
theorem Memory.wf_setBytes {m : Memory} {a : Nat} (bs : List Byte) (hm : m.wf = true)
    (ha : a + bs.length ≤ 2 ^ 64) : (Memory.setBytes m a bs).wf = true := by
  induction bs generalizing m a with
  | nil => exact hm
  | cons b bs ih =>
    simp only [List.length_cons] at ha
    exact ih (Memory.wf_set b hm (by omega)) (by omega)

/-- What a helper writes keeps the canonical form. -/
theorem Memory.wf_setAll {m : Memory} (ws : List (Word × Byte)) (hm : m.wf = true) :
    (Memory.setAll m ws).wf = true := by
  induction ws generalizing m with
  | nil => exact hm
  | cons w ws ih =>
    obtain ⟨a, b⟩ := w
    exact ih (Memory.wf_set b hm a.isLt)

/-! ### Bytes -/

@[simp] theorem bytesOf_length (n v : Nat) : (bytesOf n v).length = n := by
  induction n generalizing v with
  | zero => rfl
  | succ n ih => simp [bytesOf, ih]

@[simp] theorem storedBytes_length (e : Endian) (n : Nat) (v : Word) : (storedBytes e n v).length = n := by
  cases e <;> simp [storedBytes, inHostOrder]

/-- The bytes of a number make it again, modulo 256 to their count. -/
theorem ofBytes_bytesOf (n v : Nat) : ofBytes (bytesOf n v) = v % 256 ^ n := by
  induction n generalizing v with
  | zero => simp [bytesOf, ofBytes, Nat.mod_one]
  | succ n ih =>
    simp only [bytesOf, ofBytes, ih, BitVec.toNat_ofNat]
    rw [show 256 ^ (n + 1) = 256 * 256 ^ n by rw [Nat.pow_succ, Nat.mul_comm], Nat.mod_mul]

/-- The number that bytes make is below 256 to their count. -/
theorem ofBytes_lt (bs : List Byte) : ofBytes bs < 256 ^ bs.length := by
  induction bs with
  | nil => simp [ofBytes]
  | cons b bs ih =>
    simp only [ofBytes, List.length_cons, Nat.pow_succ]
    have := b.isLt
    omega

/-- A value loaded from the bytes a store laid down is the low bytes of the value stored. -/
theorem loadedValue_storedBytes (e : Endian) (n : Nat) (v : Word) :
    loadedValue e (storedBytes e n v) = BitVec.ofNat 64 (v.toNat % 256 ^ n) := by
  cases e <;> simp [loadedValue, storedBytes, inHostOrder, ofBytes_bytesOf]

/-- The `k`-th byte of a number, least significant first. -/
theorem bytesOf_getElem (n v k : Nat) (h : k < (bytesOf n v).length) :
    (bytesOf n v)[k] = BitVec.ofNat 8 (v / 256 ^ k) := by
  induction n generalizing v k with
  | zero => simp [bytesOf] at h
  | succ n ih =>
    cases k with
    | zero => simp [bytesOf]
    | succ k =>
      simp only [bytesOf, List.getElem_cons_succ]
      rw [ih]
      rw [Nat.div_div_eq_div_mul, Nat.pow_succ, Nat.mul_comm 256]

end Sys2Proof.Machine
end

