-- ==== Sys2Proof/Laws/State.lean ====
section
/-!
SUPPORT. What each state update leaves in each field: one lemma per field per update, so that no later proof unfolds a
record update.
-/

namespace Sys2Proof.Machine

@[simp] theorem State.setReg_regs (s : State) (r : Reg) (v : Word) : (s.setReg r v).regs = s.regs.set r (.written v) := rfl
@[simp] theorem State.setReg_pc (s : State) (r : Reg) (v : Word) : (s.setReg r v).pc = s.pc := rfl
@[simp] theorem State.setReg_frames (s : State) (r : Reg) (v : Word) : (s.setReg r v).frames = s.frames := rfl
@[simp] theorem State.setReg_mem (s : State) (r : Reg) (v : Word) : (s.setReg r v).mem = s.mem := rfl
@[simp] theorem State.setReg_plat (s : State) (r : Reg) (v : Word) : (s.setReg r v).plat = s.plat := rfl
@[simp] theorem State.setReg_status (s : State) (r : Reg) (v : Word) : (s.setReg r v).status = s.status := rfl
@[simp] theorem State.setReg_draws (s : State) (r : Reg) (v : Word) : (s.setReg r v).draws = s.draws := rfl
@[simp] theorem State.setReg_params (s : State) (r : Reg) (v : Word) : (s.setReg r v).params = s.params := rfl

@[simp] theorem State.advance_regs (s : State) (n : Int) : (s.advance n).regs = s.regs := rfl
@[simp] theorem State.advance_pc (s : State) (n : Int) : (s.advance n).pc = s.pc + n := rfl
@[simp] theorem State.advance_frames (s : State) (n : Int) : (s.advance n).frames = s.frames := rfl
@[simp] theorem State.advance_mem (s : State) (n : Int) : (s.advance n).mem = s.mem := rfl
@[simp] theorem State.advance_plat (s : State) (n : Int) : (s.advance n).plat = s.plat := rfl
@[simp] theorem State.advance_status (s : State) (n : Int) : (s.advance n).status = s.status := rfl
@[simp] theorem State.advance_draws (s : State) (n : Int) : (s.advance n).draws = s.draws := rfl
@[simp] theorem State.advance_params (s : State) (n : Int) : (s.advance n).params = s.params := rfl

@[simp] theorem State.jumpTo_regs (s : State) (t : Int) : (s.jumpTo t).regs = s.regs := rfl
@[simp] theorem State.jumpTo_pc (s : State) (t : Int) : (s.jumpTo t).pc = t := rfl
@[simp] theorem State.jumpTo_frames (s : State) (t : Int) : (s.jumpTo t).frames = s.frames := rfl
@[simp] theorem State.jumpTo_mem (s : State) (t : Int) : (s.jumpTo t).mem = s.mem := rfl
@[simp] theorem State.jumpTo_plat (s : State) (t : Int) : (s.jumpTo t).plat = s.plat := rfl
@[simp] theorem State.jumpTo_status (s : State) (t : Int) : (s.jumpTo t).status = s.status := rfl
@[simp] theorem State.jumpTo_draws (s : State) (t : Int) : (s.jumpTo t).draws = s.draws := rfl
@[simp] theorem State.jumpTo_params (s : State) (t : Int) : (s.jumpTo t).params = s.params := rfl

@[simp] theorem State.finish_regs (s : State) (r : Reg) (v : Word) : (s.finish r v).regs = s.regs.set r (.written v) := rfl
@[simp] theorem State.finish_pc (s : State) (r : Reg) (v : Word) : (s.finish r v).pc = s.pc + 1 := rfl
@[simp] theorem State.finish_frames (s : State) (r : Reg) (v : Word) : (s.finish r v).frames = s.frames := rfl
@[simp] theorem State.finish_mem (s : State) (r : Reg) (v : Word) : (s.finish r v).mem = s.mem := rfl
@[simp] theorem State.finish_plat (s : State) (r : Reg) (v : Word) : (s.finish r v).plat = s.plat := rfl
@[simp] theorem State.finish_status (s : State) (r : Reg) (v : Word) : (s.finish r v).status = s.status := rfl
@[simp] theorem State.finish_draws (s : State) (r : Reg) (v : Word) : (s.finish r v).draws = s.draws := rfl
@[simp] theorem State.finish_params (s : State) (r : Reg) (v : Word) : (s.finish r v).params = s.params := rfl

@[simp] theorem State.drawn_regs (s : State) (n : Nat) : (s.drawn n).regs = s.regs := rfl
@[simp] theorem State.drawn_pc (s : State) (n : Nat) : (s.drawn n).pc = s.pc := rfl
@[simp] theorem State.drawn_frames (s : State) (n : Nat) : (s.drawn n).frames = s.frames := rfl
@[simp] theorem State.drawn_mem (s : State) (n : Nat) : (s.drawn n).mem = s.mem := rfl
@[simp] theorem State.drawn_plat (s : State) (n : Nat) : (s.drawn n).plat = s.plat := rfl
@[simp] theorem State.drawn_status (s : State) (n : Nat) : (s.drawn n).status = s.status := rfl
@[simp] theorem State.drawn_draws (s : State) (n : Nat) : (s.drawn n).draws = s.draws + n := rfl
@[simp] theorem State.drawn_params (s : State) (n : Nat) : (s.drawn n).params = s.params := rfl

@[simp] theorem State.stored_regs (s : State) (ea : Word) (n : Nat) (v : Word) : (s.stored ea n v).regs = s.regs := rfl
@[simp] theorem State.stored_pc (s : State) (ea : Word) (n : Nat) (v : Word) : (s.stored ea n v).pc = s.pc := rfl
@[simp] theorem State.stored_frames (s : State) (ea : Word) (n : Nat) (v : Word) : (s.stored ea n v).frames = s.frames := rfl
@[simp] theorem State.stored_mem (s : State) (ea : Word) (n : Nat) (v : Word) : (s.stored ea n v).mem = s.mem.setBytes ea.toNat (storedBytes s.params.hostEndian n v) := rfl
@[simp] theorem State.stored_plat (s : State) (ea : Word) (n : Nat) (v : Word) : (s.stored ea n v).plat = s.plat := rfl
@[simp] theorem State.stored_status (s : State) (ea : Word) (n : Nat) (v : Word) : (s.stored ea n v).status = s.status := rfl
@[simp] theorem State.stored_draws (s : State) (ea : Word) (n : Nat) (v : Word) : (s.stored ea n v).draws = s.draws := rfl
@[simp] theorem State.stored_params (s : State) (ea : Word) (n : Nat) (v : Word) : (s.stored ea n v).params = s.params := rfl

@[simp] theorem State.helperReturn_regs (s : State) (ans : HelperAnswer) : (s.helperReturn ans).regs = s.regs.dropArguments.set .r0 (.written ans.result) := rfl
@[simp] theorem State.helperReturn_pc (s : State) (ans : HelperAnswer) : (s.helperReturn ans).pc = s.pc + 1 := rfl
@[simp] theorem State.helperReturn_frames (s : State) (ans : HelperAnswer) : (s.helperReturn ans).frames = s.frames := rfl
@[simp] theorem State.helperReturn_mem (s : State) (ans : HelperAnswer) : (s.helperReturn ans).mem = s.mem.setAll ans.writes := rfl
@[simp] theorem State.helperReturn_plat (s : State) (ans : HelperAnswer) : (s.helperReturn ans).plat = ans.plat := rfl
@[simp] theorem State.helperReturn_status (s : State) (ans : HelperAnswer) : (s.helperReturn ans).status = s.status := rfl
@[simp] theorem State.helperReturn_draws (s : State) (ans : HelperAnswer) : (s.helperReturn ans).draws = s.draws + 1 := rfl
@[simp] theorem State.helperReturn_params (s : State) (ans : HelperAnswer) : (s.helperReturn ans).params = s.params := rfl

@[simp] theorem State.branch_regs (s : State) (off : Offset) (taken : Bool) : (s.branch off taken).regs = s.regs := by
  cases taken <;> rfl
theorem State.branch_pc (s : State) (off : Offset) (taken : Bool) :
    (s.branch off taken).pc = if taken then s.pc + 1 + off.toInt else s.pc + 1 := by
  cases taken <;> rfl
@[simp] theorem State.branch_frames (s : State) (off : Offset) (taken : Bool) : (s.branch off taken).frames = s.frames := by
  cases taken <;> rfl
@[simp] theorem State.branch_mem (s : State) (off : Offset) (taken : Bool) : (s.branch off taken).mem = s.mem := by
  cases taken <;> rfl
@[simp] theorem State.branch_plat (s : State) (off : Offset) (taken : Bool) : (s.branch off taken).plat = s.plat := by
  cases taken <;> rfl
@[simp] theorem State.branch_status (s : State) (off : Offset) (taken : Bool) : (s.branch off taken).status = s.status := by
  cases taken <;> rfl
@[simp] theorem State.branch_draws (s : State) (off : Offset) (taken : Bool) : (s.branch off taken).draws = s.draws := by
  cases taken <;> rfl
@[simp] theorem State.branch_params (s : State) (off : Offset) (taken : Bool) : (s.branch off taken).params = s.params := by
  cases taken <;> rfl

@[simp] theorem State.pushFrame_pc (s : State) (ret : Int) : (s.pushFrame ret).pc = s.pc := by
  unfold State.pushFrame; split <;> rfl
@[simp] theorem State.popFrame_pc (s : State) (f : Frame) (rest : List Frame) : (s.popFrame f rest).pc = s.pc := by
  unfold State.popFrame; split <;> rfl
@[simp] theorem State.pushFrame_mem (s : State) (ret : Int) : (s.pushFrame ret).mem = s.mem := by
  unfold State.pushFrame; split <;> rfl
@[simp] theorem State.popFrame_mem (s : State) (f : Frame) (rest : List Frame) : (s.popFrame f rest).mem = s.mem := by
  unfold State.popFrame; split <;> rfl
@[simp] theorem State.pushFrame_plat (s : State) (ret : Int) : (s.pushFrame ret).plat = s.plat := by
  unfold State.pushFrame; split <;> rfl
@[simp] theorem State.popFrame_plat (s : State) (f : Frame) (rest : List Frame) : (s.popFrame f rest).plat = s.plat := by
  unfold State.popFrame; split <;> rfl
@[simp] theorem State.pushFrame_status (s : State) (ret : Int) : (s.pushFrame ret).status = s.status := by
  unfold State.pushFrame; split <;> rfl
@[simp] theorem State.popFrame_status (s : State) (f : Frame) (rest : List Frame) : (s.popFrame f rest).status = s.status := by
  unfold State.popFrame; split <;> rfl
@[simp] theorem State.pushFrame_draws (s : State) (ret : Int) : (s.pushFrame ret).draws = s.draws := by
  unfold State.pushFrame; split <;> rfl
@[simp] theorem State.popFrame_draws (s : State) (f : Frame) (rest : List Frame) : (s.popFrame f rest).draws = s.draws := by
  unfold State.popFrame; split <;> rfl
@[simp] theorem State.pushFrame_params (s : State) (ret : Int) : (s.pushFrame ret).params = s.params := by
  unfold State.pushFrame; split <;> rfl
@[simp] theorem State.popFrame_params (s : State) (f : Frame) (rest : List Frame) : (s.popFrame f rest).params = s.params := by
  unfold State.popFrame; split <;> rfl
@[simp] theorem State.popFrame_frames (s : State) (f : Frame) (rest : List Frame) :
    (s.popFrame f rest).frames = rest := by
  unfold State.popFrame; split <;> rfl

/-- A branch moves the program counter and nothing else. -/
theorem State.branch_eq (s : State) (off : Offset) (taken : Bool) :
    s.branch off taken = { s with pc := if taken then s.pc + 1 + off.toInt else s.pc + 1 } := by
  cases taken <;> rfl

/-! ### Cells -/

@[simp] theorem Regs.get_set_self (g : Regs) (r : Reg) (c : Cell) : (g.set r c).get r = c := by
  cases r <;> rfl

@[simp] theorem Regs.get_set_ne (g : Regs) {r q : Reg} (c : Cell) (h : q ≠ r) : (g.set r c).get q = g.get q := by
  cases r <;> cases q <;> first | rfl | exact absurd rfl h

@[simp] theorem State.reg_setReg_self (s : State) (r : Reg) (v : Word) : (s.setReg r v).reg r = .written v :=
  Regs.get_set_self _ _ _

@[simp] theorem State.reg_setReg_ne (s : State) {r q : Reg} (v : Word) (h : q ≠ r) :
    (s.setReg r v).reg q = s.reg q :=
  Regs.get_set_ne _ _ h

/-- A callee keeps the argument registers R1 to R5. -/
theorem Regs.enterCallee_args (g : Regs) (fp : Word) :
    (g.enterCallee fp).r1 = g.r1 ∧ (g.enterCallee fp).r2 = g.r2 ∧ (g.enterCallee fp).r3 = g.r3 ∧
      (g.enterCallee fp).r4 = g.r4 ∧ (g.enterCallee fp).r5 = g.r5 :=
  ⟨rfl, rfl, rfl, rfl, rfl⟩

/-- A caller gets back the five cells it saved, and keeps R0 as the callee left it. -/
theorem Regs.leaveCallee_saved (g h : Regs) :
    (h.leaveCallee g.saved).saved = g.saved ∧ (h.leaveCallee g.saved).r0 = h.r0 :=
  ⟨rfl, rfl⟩

end Sys2Proof.Machine
end

