-- ==== Sys2Proof/Laws/Ops.lean ====
section
/-!
SUPPORT. One lemma per shared operation that says everything it can do: what the provers cite in place of unfolding it.
-/

namespace Sys2Proof.Machine

/-- Raising a fault answers the state with only its status changed. -/
theorem raise_eq (s : State) (c : Cause) : raise s c = .next { s with status := .faulted c s.pc } := rfl

theorem withReg_written {s : State} {r : Reg} {v : Word} (h : s.reg r = .written v) (k : Word → Out) :
    withReg s r k = k v := by
  simp only [withReg, h]

theorem withReg_unwritten {s : State} {r : Reg} (h : s.reg r = .unwritten) (k : Word → Out) :
    withReg s r k = raise s (.uninitRegister r) := by
  simp only [withReg, h]

/-- A register read goes on with the value or raises `UninitRegister`. -/
theorem withReg_cases (s : State) (r : Reg) (k : Word → Out) :
    (∃ v, s.reg r = .written v ∧ withReg s r k = k v) ∨
      (s.reg r = .unwritten ∧ withReg s r k = raise s (.uninitRegister r)) := by
  cases h : s.reg r with
  | unwritten => exact .inr ⟨rfl, withReg_unwritten h k⟩
  | written v => exact .inl ⟨v, rfl, withReg_written h k⟩

/-- A read of memory raises the fault of the access or goes on with the value and the count of draws moved on. -/
theorem memRead_cases (s : State) (ea : Word) (n : Nat) (k : Word → State → Out) :
    (∃ c, s.plainFault ea n .read = some c ∧ memRead s ea n k = raise s c) ∨
      (s.plainFault ea n .read = none ∧ memRead s ea n k = k (s.valueAt ea n) (s.drawn n)) := by
  cases h : s.plainFault ea n .read with
  | none => exact .inr ⟨rfl, by simp only [memRead, h]⟩
  | some c => exact .inl ⟨c, rfl, by simp only [memRead, h]⟩

/-- A write of memory raises the fault of the access or goes on with the bytes stored. -/
theorem memWrite_cases (s : State) (ea : Word) (n : Nat) (v : Word) (k : State → Out) :
    (∃ c, s.plainFault ea n .write = some c ∧ memWrite s ea n v k = raise s c) ∨
      (s.plainFault ea n .write = none ∧ memWrite s ea n v k = k (s.stored ea n v)) := by
  cases h : s.plainFault ea n .write with
  | none => exact .inr ⟨rfl, by simp only [memWrite, h]⟩
  | some c => exact .inl ⟨c, rfl, by simp only [memWrite, h]⟩

/-- An atomic access raises its fault or goes on with the old value and the new bytes stored. -/
theorem atomicRMW_cases (s : State) (ea : Word) (n : Nat) (f : Word → Word) (k : Word → State → Out) :
    (∃ c, s.atomicFault ea n = some c ∧ atomicRMW s ea n f k = raise s c) ∨
      (s.atomicFault ea n = none ∧
        atomicRMW s ea n f k = k (s.valueAt ea n) ((s.drawn n).stored ea n (f (s.valueAt ea n)))) := by
  cases h : s.atomicFault ea n with
  | none => exact .inr ⟨rfl, by simp only [atomicRMW, h]⟩
  | some c => exact .inl ⟨c, rfl, by simp only [atomicRMW, h]⟩

/-- An admitted access ends inside the address space. -/
theorem State.admits_bound {s : State} {a n : Nat} {kind : AccessKind} (h : s.admits a n kind = true) :
    a + n ≤ 2 ^ 64 := by
  simp only [State.admits, Bool.and_eq_true, decide_eq_true_eq] at h
  exact h.1

theorem State.byteFault_bound {s : State} {kind : AccessKind} {a n : Nat} (h : s.byteFault kind a n = none)
    (ha : a ≤ 2 ^ 64) : a + n ≤ 2 ^ 64 := by
  induction n generalizing a with
  | zero => exact ha
  | succ n ih =>
    simp only [State.byteFault] at h
    split at h
    · rename_i hb
      have := State.admits_bound hb
      have := ih h (by omega)
      omega
    · exact absurd h (by simp)

/-- A plain access that does not fault ends inside the address space. -/
theorem State.plainFault_bound {s : State} {ea : Word} {n : Nat} {kind : AccessKind}
    (h : s.plainFault ea n kind = none) : ea.toNat + n ≤ 2 ^ 64 := by
  simp only [State.plainFault] at h
  split at h
  · split at h
    · rename_i hb
      exact State.admits_bound hb
    · exact absurd h (by simp)
  · split at h
    · exact absurd h (by simp)
    · exact State.byteFault_bound h (Nat.le_of_lt ea.isLt)

/-- An atomic access that does not fault ends inside the address space. -/
theorem State.atomicFault_bound {s : State} {ea : Word} {n : Nat} (h : s.atomicFault ea n = none) :
    ea.toNat + n ≤ 2 ^ 64 := by
  simp only [State.atomicFault] at h
  split at h
  · split at h
    · rename_i hb
      exact State.admits_bound hb
    · exact absurd h (by simp)
  · exact absurd h (by simp)

/-- An aligned, admitted plain access does not fault. -/
theorem State.plainFault_none {s : State} {ea : Word} {n : Nat} {kind : AccessKind} (hn : ea.toNat % n = 0)
    (ha : s.admits ea.toNat n kind = true) : s.plainFault ea n kind = none := by
  simp only [State.plainFault, hn, ha, if_true]

/-- An aligned, admitted atomic access does not fault. -/
theorem State.atomicFault_none {s : State} {ea : Word} {n : Nat} (hn : ea.toNat % n = 0)
    (ha : s.admits ea.toNat n .atomic = true) : s.atomicFault ea n = none := by
  simp only [State.atomicFault, hn, ha, if_true]

/-- A misaligned plain access without `STRICT_ALIGNMENT` is made byte by byte (`20_memory.md` R44). -/
theorem State.plainFault_bytewise {s : State} {ea : Word} {n : Nat} {kind : AccessKind} (hn : ea.toNat % n ≠ 0)
    (hs : s.params.strictAlignment = false) : s.plainFault ea n kind = s.byteFault kind ea.toNat n := by
  simp only [State.plainFault, hn, hs, if_false, Bool.false_eq_true]

/-- Single-byte accesses that are each admitted do not fault. -/
theorem State.byteFault_none {s : State} {kind : AccessKind} {a n : Nat}
    (h : ∀ j < n, s.admits (a + j) 1 kind = true) : s.byteFault kind a n = none := by
  induction n generalizing a with
  | zero => rfl
  | succ n ih =>
    rw [State.byteFault, if_pos (by simpa using h 0 (Nat.succ_pos n))]
    exact ih fun j hj => by
      rw [show a + 1 + j = a + (j + 1) by omega]
      exact h (j + 1) (by omega)

/-- The fault of single-byte accesses is that of the first byte that is not admitted (log 19). -/
theorem State.byteFault_first {s : State} {kind : AccessKind} {a n k : Nat} (hk : k < n)
    (h : ∀ j < k, s.admits (a + j) 1 kind = true) (hn : s.admits (a + k) 1 kind = false) :
    s.byteFault kind a n = some (.memFault (BitVec.ofNat 64 (a + k)) 1 kind) := by
  induction k generalizing a n with
  | zero =>
    obtain ⟨n, rfl⟩ : ∃ m, n = m + 1 := ⟨n - 1, by omega⟩
    rw [State.byteFault, if_neg (by simpa using hn), Nat.add_zero]
  | succ k ih =>
    obtain ⟨n, rfl⟩ : ∃ m, n = m + 1 := ⟨n - 1, by omega⟩
    rw [State.byteFault, if_pos (by simpa using h 0 (Nat.succ_pos k)), show a + (k + 1) = a + 1 + k by omega]
    refine ih (by omega) (fun j hj => ?_) ?_
    · rw [show a + 1 + j = a + (j + 1) by omega]
      exact h (j + 1) (by omega)
    · rwa [show a + 1 + k = a + (k + 1) by omega]

/-- A read of bytes of no shared region does not look at the count of draws. -/
theorem State.valueAt_draws {s : State} {ea : Word} {n : Nat} (d : Nat)
    (h : ∀ k < n, s.isShared (ea.toNat + k) = false) : ({ s with draws := d } : State).valueAt ea n = s.valueAt ea n := by
  have key : ∀ (n a k : Nat), (∀ j < n, s.isShared (a + j) = false) →
      ({ s with draws := d } : State).bytesAt k a n = s.bytesAt k a n := by
    intro n
    induction n with
    | zero => exact fun _ _ _ => rfl
    | succ n ih =>
      intro a k ha
      have h0 : s.isShared a = false := ha 0 (Nat.succ_pos n)
      have h1 : ({ s with draws := d } : State).isShared a = false := h0
      rw [State.bytesAt, State.bytesAt, ih (a + 1) (k + 1) fun j hj => by
        rw [show a + 1 + j = a + (j + 1) by omega]
        exact ha (j + 1) (by omega)]
      simp only [State.byteAt, h0, h1, if_false, Bool.false_eq_true]
  exact congrArg (loadedValue s.params.hostEndian) (key n ea.toNat 0 h)

/-- The argument reads of a helper go on with the values of the registers or raise the fault of one of them. -/
theorem withRegs_cases (s : State) (rs : List Reg) (k : List Word → Out) :
    (∃ vs, rs.map s.reg = vs.map Cell.written ∧ withRegs s rs k = k vs) ∨
      (∃ r ∈ rs, s.reg r = .unwritten ∧ withRegs s rs k = raise s (.uninitRegister r)) := by
  induction rs generalizing k with
  | nil => exact .inl ⟨[], rfl, rfl⟩
  | cons r rs ih =>
    rw [withRegs]
    rcases withReg_cases s r (fun v => withRegs s rs fun vs => k (v :: vs)) with ⟨v, hv, hk⟩ | ⟨hv, hk⟩
    · rw [hk]
      rcases ih (fun vs => k (v :: vs)) with ⟨vs, hvs, hks⟩ | ⟨q, hq, hu, hks⟩
      · exact .inl ⟨v :: vs, by simp [hv, hvs], hks⟩
      · exact .inr ⟨q, List.mem_cons_of_mem r hq, hu, hks⟩
    · exact .inr ⟨r, List.mem_cons_self, hv, hk⟩

/-- A helper call: an unknown id, an unwritten argument, a refusal, or the state after the call. -/
theorem callHelper_cases (kind : CallKind) (imm : Word32) (s : State) :
    (∃ c, callHelper kind imm s = raise s c) ∨ (∃ ans, callHelper kind imm s = .next (s.helperReturn ans)) := by
  unfold callHelper
  split
  · exact .inl ⟨_, rfl⟩
  · rename_i h _
    rcases withRegs_cases s (argumentRegs h.arity.val) (fun values =>
        if helperRefuses h kind imm values s then raise s (.helperFault imm)
        else .next (s.helperReturn (Config.helperAnswer kind imm values s.mem s.plat s.draws))) with
      ⟨vs, _, hk⟩ | ⟨q, _, _, hk⟩
    · rw [hk]
      split
      · exact .inl ⟨_, rfl⟩
      · exact .inr ⟨_, rfl⟩
    · exact .inl ⟨_, hk⟩

end Sys2Proof.Machine
end

