-- ==== Sys2Proof/Laws/Forms.lean ====
section
/-!
SUPPORT. What each shared form of a meaning answers: with the registers it reads written, the next state; for the memory
forms, also the fault of the access. The meanings of single instructions are instances of these forms.
-/

namespace Sys2Proof.Machine

variable {s : State} {dst src : Reg} {a b base v c : Word} {imm : Word32} {off : Offset} {n : Nat} {cause : Cause}

/-! ### Arithmetic -/

theorem binary32K_done (ha : s.reg dst = .written a) (f : Word32 → Word32 → Word32) :
    binary32K s dst imm f = .next (s.finish dst (zext64 (f (low32 a) imm))) :=
  withReg_written ha _

theorem binary32X_done (ha : s.reg dst = .written a) (hb : s.reg src = .written b) (f : Word32 → Word32 → Word32) :
    binary32X s dst src f = .next (s.finish dst (zext64 (f (low32 a) (low32 b)))) :=
  (withReg_written ha _).trans (withReg_written hb _)

theorem binary64K_done (ha : s.reg dst = .written a) (f : Word → Word → Word) :
    binary64K s dst imm f = .next (s.finish dst (f a (immSext imm))) :=
  withReg_written ha _

theorem binary64X_done (ha : s.reg dst = .written a) (hb : s.reg src = .written b) (f : Word → Word → Word) :
    binary64X s dst src f = .next (s.finish dst (f a b)) :=
  (withReg_written ha _).trans (withReg_written hb _)

theorem unary32_done (ha : s.reg dst = .written a) (f : Word32 → Word32) :
    unary32 s dst f = .next (s.finish dst (zext64 (f (low32 a)))) :=
  withReg_written ha _

theorem unary64_done (ha : s.reg dst = .written a) (f : Word → Word) :
    unary64 s dst f = .next (s.finish dst (f a)) :=
  withReg_written ha _

theorem move32X_done (hb : s.reg src = .written b) :
    move32X s dst src = .next (s.finish dst (zext64 (low32 b))) :=
  withReg_written hb _

theorem move64X_done (hb : s.reg src = .written b) : move64X s dst src = .next (s.finish dst b) :=
  withReg_written hb _

theorem moveSigned32_done (hb : s.reg src = .written b) :
    moveSigned32 s dst src n = .next (s.finish dst (zext64 (signExtendLow n (low32 b)))) :=
  withReg_written hb _

theorem moveSigned64_done (hb : s.reg src = .written b) :
    moveSigned64 s dst src n = .next (s.finish dst (signExtendLow n b)) :=
  withReg_written hb _

theorem swapBytes_done (ha : s.reg dst = .written a) (f : Word → Word) :
    swapBytes s dst f = .next (s.finish dst (f a)) :=
  withReg_written ha _

/-! ### Conditional jumps -/

theorem branch32K_done (ha : s.reg dst = .written a) (cond : Word32 → Word32 → Bool) :
    branch32K s dst imm off cond = .next (s.branch off (cond (low32 a) imm)) :=
  withReg_written ha _

theorem branch32X_done (ha : s.reg dst = .written a) (hb : s.reg src = .written b) (cond : Word32 → Word32 → Bool) :
    branch32X s dst src off cond = .next (s.branch off (cond (low32 a) (low32 b))) :=
  (withReg_written ha _).trans (withReg_written hb _)

theorem branch64K_done (ha : s.reg dst = .written a) (cond : Word → Word → Bool) :
    branch64K s dst imm off cond = .next (s.branch off (cond a (immSext imm))) :=
  withReg_written ha _

theorem branch64X_done (ha : s.reg dst = .written a) (hb : s.reg src = .written b) (cond : Word → Word → Bool) :
    branch64X s dst src off cond = .next (s.branch off (cond a b)) :=
  (withReg_written ha _).trans (withReg_written hb _)

/-! ### Memory primitives -/

theorem memRead_done {ea : Word} (h : s.plainFault ea n .read = none) (k : Word → State → Out) :
    memRead s ea n k = k (s.valueAt ea n) (s.drawn n) := by
  simp only [memRead, h]

theorem memRead_fault {ea : Word} (h : s.plainFault ea n .read = some cause) (k : Word → State → Out) :
    memRead s ea n k = raise s cause := by
  simp only [memRead, h]

theorem memWrite_done {ea : Word} (h : s.plainFault ea n .write = none) (k : State → Out) :
    memWrite s ea n v k = k (s.stored ea n v) := by
  simp only [memWrite, h]

theorem memWrite_fault {ea : Word} (h : s.plainFault ea n .write = some cause) (k : State → Out) :
    memWrite s ea n v k = raise s cause := by
  simp only [memWrite, h]

theorem atomicRMW_done {ea : Word} (h : s.atomicFault ea n = none) (f : Word → Word) (k : Word → State → Out) :
    atomicRMW s ea n f k = k (s.valueAt ea n) ((s.drawn n).stored ea n (f (s.valueAt ea n))) := by
  simp only [atomicRMW, h]

theorem atomicRMW_fault {ea : Word} (h : s.atomicFault ea n = some cause) (f : Word → Word)
    (k : Word → State → Out) : atomicRMW s ea n f k = raise s cause := by
  simp only [atomicRMW, h]

/-! ### Loads and stores -/

theorem load_done (hb : s.reg src = .written base) (h : s.plainFault (effectiveAddress base off) n .read = none) :
    load s dst src off n = .next ((s.drawn n).finish dst (s.valueAt (effectiveAddress base off) n)) :=
  (withReg_written hb _).trans (memRead_done h _)

theorem load_fault (hb : s.reg src = .written base)
    (h : s.plainFault (effectiveAddress base off) n .read = some cause) : load s dst src off n = raise s cause :=
  (withReg_written hb _).trans (memRead_fault h _)

theorem loadSigned_done (hb : s.reg src = .written base)
    (h : s.plainFault (effectiveAddress base off) n .read = none) :
    loadSigned s dst src off n =
      .next ((s.drawn n).finish dst (signExtendBytes n (s.valueAt (effectiveAddress base off) n))) :=
  (withReg_written hb _).trans (memRead_done h _)

theorem loadSigned_fault (hb : s.reg src = .written base)
    (h : s.plainFault (effectiveAddress base off) n .read = some cause) :
    loadSigned s dst src off n = raise s cause :=
  (withReg_written hb _).trans (memRead_fault h _)

theorem storeImm_done (hb : s.reg dst = .written base)
    (h : s.plainFault (effectiveAddress base off) n .write = none) :
    storeImm s dst off imm n = .next ((s.stored (effectiveAddress base off) n (immSext imm)).advance 1) :=
  (withReg_written hb _).trans (memWrite_done h _)

theorem storeImm_fault (hb : s.reg dst = .written base)
    (h : s.plainFault (effectiveAddress base off) n .write = some cause) :
    storeImm s dst off imm n = raise s cause :=
  (withReg_written hb _).trans (memWrite_fault h _)

theorem storeReg_done (hb : s.reg dst = .written base) (hv : s.reg src = .written v)
    (h : s.plainFault (effectiveAddress base off) n .write = none) :
    storeReg s dst src off n = .next ((s.stored (effectiveAddress base off) n v).advance 1) :=
  (withReg_written hb _).trans ((withReg_written hv _).trans (memWrite_done h _))

theorem storeReg_fault (hb : s.reg dst = .written base) (hv : s.reg src = .written v)
    (h : s.plainFault (effectiveAddress base off) n .write = some cause) :
    storeReg s dst src off n = raise s cause :=
  (withReg_written hb _).trans ((withReg_written hv _).trans (memWrite_fault h _))

/-! ### Atomics -/

theorem atomic32_done (hb : s.reg dst = .written base) (hv : s.reg src = .written v)
    (h : s.atomicFault (effectiveAddress base off) 4 = none) (f : Word32 → Word32 → Word32) :
    atomic32 s dst src off f =
      .next (((s.drawn 4).stored (effectiveAddress base off) 4
        (zext64 (f (low32 (s.valueAt (effectiveAddress base off) 4)) (low32 v)))).advance 1) :=
  (withReg_written hb _).trans ((withReg_written hv _).trans (atomicRMW_done h _ _))

theorem atomic32_fault (hb : s.reg dst = .written base) (hv : s.reg src = .written v)
    (h : s.atomicFault (effectiveAddress base off) 4 = some cause) (f : Word32 → Word32 → Word32) :
    atomic32 s dst src off f = raise s cause :=
  (withReg_written hb _).trans ((withReg_written hv _).trans (atomicRMW_fault h _ _))

theorem atomicFetch32_done (hb : s.reg dst = .written base) (hv : s.reg src = .written v)
    (h : s.atomicFault (effectiveAddress base off) 4 = none) (f : Word32 → Word32 → Word32) :
    atomicFetch32 s dst src off f =
      .next (((s.drawn 4).stored (effectiveAddress base off) 4
        (zext64 (f (low32 (s.valueAt (effectiveAddress base off) 4)) (low32 v)))).finish src
          (zext64 (low32 (s.valueAt (effectiveAddress base off) 4)))) :=
  (withReg_written hb _).trans ((withReg_written hv _).trans (atomicRMW_done h _ _))

theorem atomicFetch32_fault (hb : s.reg dst = .written base) (hv : s.reg src = .written v)
    (h : s.atomicFault (effectiveAddress base off) 4 = some cause) (f : Word32 → Word32 → Word32) :
    atomicFetch32 s dst src off f = raise s cause :=
  (withReg_written hb _).trans ((withReg_written hv _).trans (atomicRMW_fault h _ _))

theorem atomic64_done (hb : s.reg dst = .written base) (hv : s.reg src = .written v)
    (h : s.atomicFault (effectiveAddress base off) 8 = none) (f : Word → Word → Word) :
    atomic64 s dst src off f =
      .next (((s.drawn 8).stored (effectiveAddress base off) 8
        (f (s.valueAt (effectiveAddress base off) 8) v)).advance 1) :=
  (withReg_written hb _).trans ((withReg_written hv _).trans (atomicRMW_done h _ _))

theorem atomic64_fault (hb : s.reg dst = .written base) (hv : s.reg src = .written v)
    (h : s.atomicFault (effectiveAddress base off) 8 = some cause) (f : Word → Word → Word) :
    atomic64 s dst src off f = raise s cause :=
  (withReg_written hb _).trans ((withReg_written hv _).trans (atomicRMW_fault h _ _))

theorem atomicFetch64_done (hb : s.reg dst = .written base) (hv : s.reg src = .written v)
    (h : s.atomicFault (effectiveAddress base off) 8 = none) (f : Word → Word → Word) :
    atomicFetch64 s dst src off f =
      .next (((s.drawn 8).stored (effectiveAddress base off) 8
        (f (s.valueAt (effectiveAddress base off) 8) v)).finish src (s.valueAt (effectiveAddress base off) 8)) :=
  (withReg_written hb _).trans ((withReg_written hv _).trans (atomicRMW_done h _ _))

theorem atomicFetch64_fault (hb : s.reg dst = .written base) (hv : s.reg src = .written v)
    (h : s.atomicFault (effectiveAddress base off) 8 = some cause) (f : Word → Word → Word) :
    atomicFetch64 s dst src off f = raise s cause :=
  (withReg_written hb _).trans ((withReg_written hv _).trans (atomicRMW_fault h _ _))

theorem compareExchange32_done (hb : s.reg dst = .written base) (hv : s.reg src = .written v)
    (hc : s.reg .r0 = .written c) (h : s.atomicFault (effectiveAddress base off) 4 = none) :
    compareExchange32 s dst src off =
      .next (((s.drawn 4).stored (effectiveAddress base off) 4
        (zext64 (if low32 (s.valueAt (effectiveAddress base off) 4) = low32 c then low32 v
          else low32 (s.valueAt (effectiveAddress base off) 4)))).finish .r0
            (zext64 (low32 (s.valueAt (effectiveAddress base off) 4)))) :=
  (withReg_written hb _).trans ((withReg_written hv _).trans ((withReg_written hc _).trans (atomicRMW_done h _ _)))

theorem compareExchange32_fault (hb : s.reg dst = .written base) (hv : s.reg src = .written v)
    (hc : s.reg .r0 = .written c) (h : s.atomicFault (effectiveAddress base off) 4 = some cause) :
    compareExchange32 s dst src off = raise s cause :=
  (withReg_written hb _).trans ((withReg_written hv _).trans ((withReg_written hc _).trans (atomicRMW_fault h _ _)))

theorem compareExchange64_done (hb : s.reg dst = .written base) (hv : s.reg src = .written v)
    (hc : s.reg .r0 = .written c) (h : s.atomicFault (effectiveAddress base off) 8 = none) :
    compareExchange64 s dst src off =
      .next (((s.drawn 8).stored (effectiveAddress base off) 8
        (if s.valueAt (effectiveAddress base off) 8 = c then v
          else s.valueAt (effectiveAddress base off) 8)).finish .r0 (s.valueAt (effectiveAddress base off) 8)) :=
  (withReg_written hb _).trans ((withReg_written hv _).trans ((withReg_written hc _).trans (atomicRMW_done h _ _)))

theorem compareExchange64_fault (hb : s.reg dst = .written base) (hv : s.reg src = .written v)
    (hc : s.reg .r0 = .written c) (h : s.atomicFault (effectiveAddress base off) 8 = some cause) :
    compareExchange64 s dst src off = raise s cause :=
  (withReg_written hb _).trans ((withReg_written hv _).trans ((withReg_written hc _).trans (atomicRMW_fault h _ _)))

/-! ### Platform addresses -/

theorem loadAddress_some {address : Option Word} (h : address = some v) :
    loadAddress s dst address = .next ((s.setReg dst v).advance 2) := by
  subst h
  rfl

theorem loadAddress_none {address : Option Word} (h : address = none) :
    loadAddress s dst address = raise s .unresolvedAddress := by
  subst h
  rfl

end Sys2Proof.Machine
end

