-- ==== Sys2Proof/Laws/Access.lean ====
section
/-!
SUPPORT. Two facts about every instruction, said once: it reads the registers of `readRegs` in that order before anything
else (`exec_reads`), and an access to data memory raises the fault of the access or completes (`exec_access`).
-/

namespace Sys2Proof.Machine

/-! ### Register reads -/

/-- The outcome raises no `UninitRegister` that was not there before. -/
def NoUninit (s : State) (o : Out) : Prop :=
  s.status = .running → ∀ t r p, o = .next t → t.status ≠ .faulted (.uninitRegister r) p

theorem noUninit_next {s t : State} (h : t.status = s.status) : NoUninit s (.next t) := by
  intro hs u r p hu
  cases hu
  rw [h, hs]
  exact nofun

theorem noUninit_raise {s : State} {c : Cause} (h : ∀ r, c ≠ .uninitRegister r) : NoUninit s (raise s c) := by
  intro _ u r p hu hf
  cases hu
  cases hf
  exact h r rfl

/-- The fault of a plain access is `Misaligned` or `MemFault`. -/
theorem State.plainFault_kind {s : State} {ea : Word} {n : Nat} {kind : AccessKind} {c : Cause}
    (h : s.plainFault ea n kind = some c) : ∀ r, c ≠ .uninitRegister r := by
  have bytes : ∀ m a, s.byteFault kind a m = some c → ∀ r, c ≠ .uninitRegister r := by
    intro m
    induction m with
    | zero => exact nofun
    | succ m ih =>
      intro a ha
      simp only [State.byteFault] at ha
      split at ha
      · exact ih _ ha
      · cases ha
        exact nofun
  simp only [State.plainFault] at h
  split at h
  · split at h
    · cases h
    · cases h
      exact nofun
  · split at h
    · cases h
      exact nofun
    · exact bytes _ _ h

/-- The fault of an atomic access is `Misaligned` or `MemFault`. -/
theorem State.atomicFault_kind {s : State} {ea : Word} {n : Nat} {c : Cause} (h : s.atomicFault ea n = some c) :
    ∀ r, c ≠ .uninitRegister r := by
  simp only [State.atomicFault] at h
  split at h
  · split at h
    · cases h
    · cases h
      exact nofun
  · cases h
    exact nofun

theorem noUninit_memRead {s : State} {ea : Word} {n : Nat} {k : Word → State → Out}
    (hk : NoUninit s (k (s.valueAt ea n) (s.drawn n))) : NoUninit s (memRead s ea n k) := by
  rcases memRead_cases s ea n k with ⟨c, hc, h⟩ | ⟨_, h⟩ <;> rw [h]
  · exact noUninit_raise (State.plainFault_kind hc)
  · exact hk

theorem noUninit_memWrite {s : State} {ea v : Word} {n : Nat} {k : State → Out}
    (hk : NoUninit s (k (s.stored ea n v))) : NoUninit s (memWrite s ea n v k) := by
  rcases memWrite_cases s ea n v k with ⟨c, hc, h⟩ | ⟨_, h⟩ <;> rw [h]
  · exact noUninit_raise (State.plainFault_kind hc)
  · exact hk

theorem noUninit_atomicRMW {s : State} {ea : Word} {n : Nat} {f : Word → Word} {k : Word → State → Out}
    (hk : NoUninit s (k (s.valueAt ea n) ((s.drawn n).stored ea n (f (s.valueAt ea n))))) :
    NoUninit s (atomicRMW s ea n f k) := by
  rcases atomicRMW_cases s ea n f k with ⟨c, hc, h⟩ | ⟨_, h⟩ <;> rw [h]
  · exact noUninit_raise (State.atomicFault_kind hc)
  · exact hk

/-- The outcome reads these registers in order, and what follows raises no `UninitRegister`. -/
def ReadsFirst (s : State) (rs : List Reg) (o : Out) : Prop :=
  ∃ k : List Word → Out, o = withRegs s rs k ∧ ∀ vs, NoUninit s (k vs)

theorem reads_none {s : State} {o : Out} (h : NoUninit s o) : ReadsFirst s [] o := ⟨fun _ => o, rfl, fun _ => h⟩

theorem reads_one {s : State} {r : Reg} {k : Word → Out} (h : ∀ a, NoUninit s (k a)) :
    ReadsFirst s [r] (withReg s r k) :=
  ⟨fun vs => k (vs.headD 0), rfl, fun _ => h _⟩

theorem reads_two {s : State} {r q : Reg} {k : Word → Word → Out} (h : ∀ a b, NoUninit s (k a b)) :
    ReadsFirst s [r, q] (withReg s r fun a => withReg s q fun b => k a b) :=
  ⟨fun vs => k (vs.headD 0) (vs.tail.headD 0), rfl, fun _ => h _ _⟩

theorem reads_three {s : State} {r q p : Reg} {k : Word → Word → Word → Out} (h : ∀ a b c, NoUninit s (k a b c)) :
    ReadsFirst s [r, q, p] (withReg s r fun a => withReg s q fun b => withReg s p fun c => k a b c) :=
  ⟨fun vs => k (vs.headD 0) (vs.tail.headD 0) (vs.tail.tail.headD 0), rfl, fun _ => h _ _ _⟩

theorem noUninit_branch {s : State} (off : Offset) (taken : Bool) : NoUninit s (.next (s.branch off taken)) :=
  noUninit_next (by simp)

theorem noUninit_loadAddress {s : State} {dst : Reg} (address : Option Word) :
    NoUninit s (loadAddress s dst address) := by
  cases address with
  | none => exact noUninit_raise nofun
  | some v => exact noUninit_next rfl

theorem noUninit_legacyPacket {s : State} : NoUninit s (legacyPacket s) := by
  unfold legacyPacket
  split <;> exact noUninit_raise nofun

theorem reads_callHelper {s : State} (kind : CallKind) (imm : Word32) :
    ReadsFirst s ((s.params.helper kind imm).elim [] fun h => argumentRegs h.arity.val) (callHelper kind imm s) := by
  unfold callHelper
  split
  · rename_i h
    rw [h]
    exact reads_none (noUninit_raise nofun)
  · rename_i h hh
    rw [hh]
    refine ⟨_, rfl, fun vs => ?_⟩
    split
    · exact noUninit_raise nofun
    · exact noUninit_next rfl

theorem noUninit_callLocal {s : State} (imm : Word32) : NoUninit s (callLocal imm s) := by
  unfold callLocal
  split
  · exact noUninit_raise nofun
  · exact noUninit_next (by simp)

theorem reads_exitFrame {s : State} : ReadsFirst s (if s.frames = [] then [.r0] else []) (exitFrame s) := by
  rw [exitFrame]
  cases h : s.frames with
  | nil =>
    rw [if_pos rfl]
    refine reads_one fun v _ u r p hu => ?_
    cases hu
    exact nofun
  | cons f rest =>
    rw [if_neg nofun]
    exact reads_none (noUninit_next (by simp))

/-- Every instruction reads the registers of `readRegs` in that order, before anything else it does, and raises no
`UninitRegister` once it has read them. -/
theorem exec_reads (i : Instr) (s : State) : ReadsFirst s (readRegs s i) (exec i s) :=
  match i with
  | .add32K .. => reads_one fun _ => noUninit_next rfl
  | .add32X .. => reads_two fun _ _ => noUninit_next rfl
  | .add64K .. => reads_one fun _ => noUninit_next rfl
  | .add64X .. => reads_two fun _ _ => noUninit_next rfl
  | .sub32K .. => reads_one fun _ => noUninit_next rfl
  | .sub32X .. => reads_two fun _ _ => noUninit_next rfl
  | .sub64K .. => reads_one fun _ => noUninit_next rfl
  | .sub64X .. => reads_two fun _ _ => noUninit_next rfl
  | .mul32K .. => reads_one fun _ => noUninit_next rfl
  | .mul32X .. => reads_two fun _ _ => noUninit_next rfl
  | .mul64K .. => reads_one fun _ => noUninit_next rfl
  | .mul64X .. => reads_two fun _ _ => noUninit_next rfl
  | .div32K .. => reads_one fun _ => noUninit_next rfl
  | .div32X .. => reads_two fun _ _ => noUninit_next rfl
  | .div64K .. => reads_one fun _ => noUninit_next rfl
  | .div64X .. => reads_two fun _ _ => noUninit_next rfl
  | .sdiv32K .. => reads_one fun _ => noUninit_next rfl
  | .sdiv32X .. => reads_two fun _ _ => noUninit_next rfl
  | .sdiv64K .. => reads_one fun _ => noUninit_next rfl
  | .sdiv64X .. => reads_two fun _ _ => noUninit_next rfl
  | .or32K .. => reads_one fun _ => noUninit_next rfl
  | .or32X .. => reads_two fun _ _ => noUninit_next rfl
  | .or64K .. => reads_one fun _ => noUninit_next rfl
  | .or64X .. => reads_two fun _ _ => noUninit_next rfl
  | .and32K .. => reads_one fun _ => noUninit_next rfl
  | .and32X .. => reads_two fun _ _ => noUninit_next rfl
  | .and64K .. => reads_one fun _ => noUninit_next rfl
  | .and64X .. => reads_two fun _ _ => noUninit_next rfl
  | .lsh32K .. => reads_one fun _ => noUninit_next rfl
  | .lsh32X .. => reads_two fun _ _ => noUninit_next rfl
  | .lsh64K .. => reads_one fun _ => noUninit_next rfl
  | .lsh64X .. => reads_two fun _ _ => noUninit_next rfl
  | .rsh32K .. => reads_one fun _ => noUninit_next rfl
  | .rsh32X .. => reads_two fun _ _ => noUninit_next rfl
  | .rsh64K .. => reads_one fun _ => noUninit_next rfl
  | .rsh64X .. => reads_two fun _ _ => noUninit_next rfl
  | .neg32 .. => reads_one fun _ => noUninit_next rfl
  | .neg64 .. => reads_one fun _ => noUninit_next rfl
  | .mod32K .. => reads_one fun _ => noUninit_next rfl
  | .mod32X .. => reads_two fun _ _ => noUninit_next rfl
  | .mod64K .. => reads_one fun _ => noUninit_next rfl
  | .mod64X .. => reads_two fun _ _ => noUninit_next rfl
  | .smod32K .. => reads_one fun _ => noUninit_next rfl
  | .smod32X .. => reads_two fun _ _ => noUninit_next rfl
  | .smod64K .. => reads_one fun _ => noUninit_next rfl
  | .smod64X .. => reads_two fun _ _ => noUninit_next rfl
  | .xor32K .. => reads_one fun _ => noUninit_next rfl
  | .xor32X .. => reads_two fun _ _ => noUninit_next rfl
  | .xor64K .. => reads_one fun _ => noUninit_next rfl
  | .xor64X .. => reads_two fun _ _ => noUninit_next rfl
  | .mov32K .. => reads_none (noUninit_next rfl)
  | .mov32X .. => reads_one fun _ => noUninit_next rfl
  | .mov64K .. => reads_none (noUninit_next rfl)
  | .mov64X .. => reads_one fun _ => noUninit_next rfl
  | .movsx32From8 .. => reads_one fun _ => noUninit_next rfl
  | .movsx32From16 .. => reads_one fun _ => noUninit_next rfl
  | .movsx64From8 .. => reads_one fun _ => noUninit_next rfl
  | .movsx64From16 .. => reads_one fun _ => noUninit_next rfl
  | .movsx64From32 .. => reads_one fun _ => noUninit_next rfl
  | .arsh32K .. => reads_one fun _ => noUninit_next rfl
  | .arsh32X .. => reads_two fun _ _ => noUninit_next rfl
  | .arsh64K .. => reads_one fun _ => noUninit_next rfl
  | .arsh64X .. => reads_two fun _ _ => noUninit_next rfl
  | .le16 .. => reads_one fun _ => noUninit_next rfl
  | .le32 .. => reads_one fun _ => noUninit_next rfl
  | .le64 .. => reads_one fun _ => noUninit_next rfl
  | .be16 .. => reads_one fun _ => noUninit_next rfl
  | .be32 .. => reads_one fun _ => noUninit_next rfl
  | .be64 .. => reads_one fun _ => noUninit_next rfl
  | .bswap16 .. => reads_one fun _ => noUninit_next rfl
  | .bswap32 .. => reads_one fun _ => noUninit_next rfl
  | .bswap64 .. => reads_one fun _ => noUninit_next rfl
  | .ja .. => reads_none (noUninit_next rfl)
  | .ja32 .. => reads_none (noUninit_next rfl)
  | .jeq64K .. => reads_one fun _ => noUninit_branch _ _
  | .jeq64X .. => reads_two fun _ _ => noUninit_branch _ _
  | .jeq32K .. => reads_one fun _ => noUninit_branch _ _
  | .jeq32X .. => reads_two fun _ _ => noUninit_branch _ _
  | .jgt64K .. => reads_one fun _ => noUninit_branch _ _
  | .jgt64X .. => reads_two fun _ _ => noUninit_branch _ _
  | .jgt32K .. => reads_one fun _ => noUninit_branch _ _
  | .jgt32X .. => reads_two fun _ _ => noUninit_branch _ _
  | .jge64K .. => reads_one fun _ => noUninit_branch _ _
  | .jge64X .. => reads_two fun _ _ => noUninit_branch _ _
  | .jge32K .. => reads_one fun _ => noUninit_branch _ _
  | .jge32X .. => reads_two fun _ _ => noUninit_branch _ _
  | .jset64K .. => reads_one fun _ => noUninit_branch _ _
  | .jset64X .. => reads_two fun _ _ => noUninit_branch _ _
  | .jset32K .. => reads_one fun _ => noUninit_branch _ _
  | .jset32X .. => reads_two fun _ _ => noUninit_branch _ _
  | .jne64K .. => reads_one fun _ => noUninit_branch _ _
  | .jne64X .. => reads_two fun _ _ => noUninit_branch _ _
  | .jne32K .. => reads_one fun _ => noUninit_branch _ _
  | .jne32X .. => reads_two fun _ _ => noUninit_branch _ _
  | .jsgt64K .. => reads_one fun _ => noUninit_branch _ _
  | .jsgt64X .. => reads_two fun _ _ => noUninit_branch _ _
  | .jsgt32K .. => reads_one fun _ => noUninit_branch _ _
  | .jsgt32X .. => reads_two fun _ _ => noUninit_branch _ _
  | .jsge64K .. => reads_one fun _ => noUninit_branch _ _
  | .jsge64X .. => reads_two fun _ _ => noUninit_branch _ _
  | .jsge32K .. => reads_one fun _ => noUninit_branch _ _
  | .jsge32X .. => reads_two fun _ _ => noUninit_branch _ _
  | .jlt64K .. => reads_one fun _ => noUninit_branch _ _
  | .jlt64X .. => reads_two fun _ _ => noUninit_branch _ _
  | .jlt32K .. => reads_one fun _ => noUninit_branch _ _
  | .jlt32X .. => reads_two fun _ _ => noUninit_branch _ _
  | .jle64K .. => reads_one fun _ => noUninit_branch _ _
  | .jle64X .. => reads_two fun _ _ => noUninit_branch _ _
  | .jle32K .. => reads_one fun _ => noUninit_branch _ _
  | .jle32X .. => reads_two fun _ _ => noUninit_branch _ _
  | .jslt64K .. => reads_one fun _ => noUninit_branch _ _
  | .jslt64X .. => reads_two fun _ _ => noUninit_branch _ _
  | .jslt32K .. => reads_one fun _ => noUninit_branch _ _
  | .jslt32X .. => reads_two fun _ _ => noUninit_branch _ _
  | .jsle64K .. => reads_one fun _ => noUninit_branch _ _
  | .jsle64X .. => reads_two fun _ _ => noUninit_branch _ _
  | .jsle32K .. => reads_one fun _ => noUninit_branch _ _
  | .jsle32X .. => reads_two fun _ _ => noUninit_branch _ _
  | .callHelper .. => reads_callHelper _ _
  | .callLocal .. => reads_none (noUninit_callLocal _)
  | .callBtf .. => reads_callHelper _ _
  | .exit => reads_exitFrame
  | .ldxw .. => reads_one fun _ => noUninit_memRead (noUninit_next rfl)
  | .ldxh .. => reads_one fun _ => noUninit_memRead (noUninit_next rfl)
  | .ldxb .. => reads_one fun _ => noUninit_memRead (noUninit_next rfl)
  | .ldxdw .. => reads_one fun _ => noUninit_memRead (noUninit_next rfl)
  | .ldxsw .. => reads_one fun _ => noUninit_memRead (noUninit_next rfl)
  | .ldxsh .. => reads_one fun _ => noUninit_memRead (noUninit_next rfl)
  | .ldxsb .. => reads_one fun _ => noUninit_memRead (noUninit_next rfl)
  | .stw .. => reads_one fun _ => noUninit_memWrite (noUninit_next rfl)
  | .sth .. => reads_one fun _ => noUninit_memWrite (noUninit_next rfl)
  | .stb .. => reads_one fun _ => noUninit_memWrite (noUninit_next rfl)
  | .stdw .. => reads_one fun _ => noUninit_memWrite (noUninit_next rfl)
  | .stxw .. => reads_two fun _ _ => noUninit_memWrite (noUninit_next rfl)
  | .stxh .. => reads_two fun _ _ => noUninit_memWrite (noUninit_next rfl)
  | .stxb .. => reads_two fun _ _ => noUninit_memWrite (noUninit_next rfl)
  | .stxdw .. => reads_two fun _ _ => noUninit_memWrite (noUninit_next rfl)
  | .aadd32 .. => reads_two fun _ _ => noUninit_atomicRMW (noUninit_next rfl)
  | .aadd32Fetch .. => reads_two fun _ _ => noUninit_atomicRMW (noUninit_next rfl)
  | .aor32 .. => reads_two fun _ _ => noUninit_atomicRMW (noUninit_next rfl)
  | .aor32Fetch .. => reads_two fun _ _ => noUninit_atomicRMW (noUninit_next rfl)
  | .aand32 .. => reads_two fun _ _ => noUninit_atomicRMW (noUninit_next rfl)
  | .aand32Fetch .. => reads_two fun _ _ => noUninit_atomicRMW (noUninit_next rfl)
  | .axor32 .. => reads_two fun _ _ => noUninit_atomicRMW (noUninit_next rfl)
  | .axor32Fetch .. => reads_two fun _ _ => noUninit_atomicRMW (noUninit_next rfl)
  | .axchg32 .. => reads_two fun _ _ => noUninit_atomicRMW (noUninit_next rfl)
  | .acmpxchg32 .. => reads_three fun _ _ _ => noUninit_atomicRMW (noUninit_next rfl)
  | .aadd64 .. => reads_two fun _ _ => noUninit_atomicRMW (noUninit_next rfl)
  | .aadd64Fetch .. => reads_two fun _ _ => noUninit_atomicRMW (noUninit_next rfl)
  | .aor64 .. => reads_two fun _ _ => noUninit_atomicRMW (noUninit_next rfl)
  | .aor64Fetch .. => reads_two fun _ _ => noUninit_atomicRMW (noUninit_next rfl)
  | .aand64 .. => reads_two fun _ _ => noUninit_atomicRMW (noUninit_next rfl)
  | .aand64Fetch .. => reads_two fun _ _ => noUninit_atomicRMW (noUninit_next rfl)
  | .axor64 .. => reads_two fun _ _ => noUninit_atomicRMW (noUninit_next rfl)
  | .axor64Fetch .. => reads_two fun _ _ => noUninit_atomicRMW (noUninit_next rfl)
  | .axchg64 .. => reads_two fun _ _ => noUninit_atomicRMW (noUninit_next rfl)
  | .acmpxchg64 .. => reads_three fun _ _ _ => noUninit_atomicRMW (noUninit_next rfl)
  | .lddw .. => reads_none (noUninit_next rfl)
  | .ldMapFd .. => reads_none (noUninit_loadAddress _)
  | .ldMapValFd .. => reads_none (noUninit_loadAddress _)
  | .ldVarAddr .. => reads_none (noUninit_loadAddress _)
  | .ldCodeAddr .. => reads_none (noUninit_loadAddress _)
  | .ldMapIdx .. => reads_none (noUninit_loadAddress _)
  | .ldMapValIdx .. => reads_none (noUninit_loadAddress _)
  | .ldabsw .. => reads_none noUninit_legacyPacket
  | .ldabsh .. => reads_none noUninit_legacyPacket
  | .ldabsb .. => reads_none noUninit_legacyPacket
  | .ldindw .. => reads_none noUninit_legacyPacket
  | .ldindh .. => reads_none noUninit_legacyPacket
  | .ldindb .. => reads_none noUninit_legacyPacket

/-! ### Accesses to data memory -/

/-- The fault of an access at an address, if any. -/
def State.accessFault (s : State) (ea : Word) (n : Nat) : AccessKind → Option Cause
  | .read => s.plainFault ea n .read
  | .write => s.plainFault ea n .write
  | .atomic => s.atomicFault ea n

/-- The outcome is the fault, where there is one; else a next state one slot on with the status unchanged. -/
def Accessed (s : State) (o : Out) : Option Cause → Prop
  | some c => o = raise s c
  | none => ∃ t, o = .next t ∧ t.status = s.status ∧ t.pc = s.pc + 1

/-- All these registers hold a value. -/
abbrev AllWritten (s : State) (rs : List Reg) : Prop := ∀ r ∈ rs, s.reg r ≠ .unwritten

theorem AllWritten.get {s : State} {rs : List Reg} (h : AllWritten s rs) {r : Reg} (hr : r ∈ rs) :
    ∃ v, s.reg r = .written v := by
  cases hv : s.reg r with
  | unwritten => exact absurd hv (h r hr)
  | written v => exact ⟨v, rfl⟩

theorem accessed_read {s : State} {ea : Word} {n : Nat} {dst : Reg} (g : Word → Word) :
    Accessed s (memRead s ea n fun v t => .next (t.finish dst (g v))) (s.plainFault ea n .read) := by
  cases h : s.plainFault ea n .read with
  | some c => exact memRead_fault h _
  | none => exact ⟨_, memRead_done h _, rfl, rfl⟩

theorem accessed_write {s : State} {ea v : Word} {n : Nat} :
    Accessed s (memWrite s ea n v fun t => .next (t.advance 1)) (s.plainFault ea n .write) := by
  cases h : s.plainFault ea n .write with
  | some c => exact memWrite_fault h _
  | none => exact ⟨_, memWrite_done h _, rfl, rfl⟩

theorem accessed_atomic {s : State} {ea : Word} {n : Nat} (f : Word → Word) {k : Word → State → Out}
    (hk : ∀ v t, ∃ u, k v t = .next u ∧ u.status = t.status ∧ u.pc = t.pc + 1) :
    Accessed s (atomicRMW s ea n f k) (s.atomicFault ea n) := by
  cases h : s.atomicFault ea n with
  | some c => exact atomicRMW_fault h _ _
  | none =>
    obtain ⟨u, hu, h1, h2⟩ := hk (s.valueAt ea n) ((s.drawn n).stored ea n (f (s.valueAt ea n)))
    exact ⟨u, (atomicRMW_done h _ _).trans hu, h1, h2⟩

section

variable {s : State} {dst src : Reg} {base : Word} {imm : Word32} {off : Offset} {n : Nat}

theorem accessed_load (hb : s.reg src = .written base) :
    Accessed s (load s dst src off n) (s.plainFault (effectiveAddress base off) n .read) := by
  rw [load, withReg_written hb]
  exact accessed_read id

theorem accessed_loadSigned (hb : s.reg src = .written base) :
    Accessed s (loadSigned s dst src off n) (s.plainFault (effectiveAddress base off) n .read) := by
  rw [loadSigned, withReg_written hb]
  exact accessed_read _

theorem accessed_storeImm (hb : s.reg dst = .written base) :
    Accessed s (storeImm s dst off imm n) (s.plainFault (effectiveAddress base off) n .write) := by
  rw [storeImm, withReg_written hb]
  exact accessed_write

theorem accessed_storeReg (hr : AllWritten s [dst, src]) (hb : s.reg dst = .written base) :
    Accessed s (storeReg s dst src off n) (s.plainFault (effectiveAddress base off) n .write) := by
  obtain ⟨v, hv⟩ := hr.get (r := src) (by simp)
  rw [storeReg, withReg_written hb, withReg_written hv]
  exact accessed_write

theorem accessed_atomic32 (hr : AllWritten s [dst, src]) (hb : s.reg dst = .written base)
    (f : Word32 → Word32 → Word32) :
    Accessed s (atomic32 s dst src off f) (s.atomicFault (effectiveAddress base off) 4) := by
  obtain ⟨v, hv⟩ := hr.get (r := src) (by simp)
  rw [atomic32, withReg_written hb, withReg_written hv]
  exact accessed_atomic _ fun _ _ => ⟨_, rfl, rfl, rfl⟩

theorem accessed_atomicFetch32 (hr : AllWritten s [dst, src]) (hb : s.reg dst = .written base)
    (f : Word32 → Word32 → Word32) :
    Accessed s (atomicFetch32 s dst src off f) (s.atomicFault (effectiveAddress base off) 4) := by
  obtain ⟨v, hv⟩ := hr.get (r := src) (by simp)
  rw [atomicFetch32, withReg_written hb, withReg_written hv]
  exact accessed_atomic _ fun _ _ => ⟨_, rfl, rfl, rfl⟩

theorem accessed_atomic64 (hr : AllWritten s [dst, src]) (hb : s.reg dst = .written base)
    (f : Word → Word → Word) :
    Accessed s (atomic64 s dst src off f) (s.atomicFault (effectiveAddress base off) 8) := by
  obtain ⟨v, hv⟩ := hr.get (r := src) (by simp)
  rw [atomic64, withReg_written hb, withReg_written hv]
  exact accessed_atomic _ fun _ _ => ⟨_, rfl, rfl, rfl⟩

theorem accessed_atomicFetch64 (hr : AllWritten s [dst, src]) (hb : s.reg dst = .written base)
    (f : Word → Word → Word) :
    Accessed s (atomicFetch64 s dst src off f) (s.atomicFault (effectiveAddress base off) 8) := by
  obtain ⟨v, hv⟩ := hr.get (r := src) (by simp)
  rw [atomicFetch64, withReg_written hb, withReg_written hv]
  exact accessed_atomic _ fun _ _ => ⟨_, rfl, rfl, rfl⟩

theorem accessed_compareExchange32 (hr : AllWritten s [dst, src, .r0]) (hb : s.reg dst = .written base) :
    Accessed s (compareExchange32 s dst src off) (s.atomicFault (effectiveAddress base off) 4) := by
  obtain ⟨v, hv⟩ := hr.get (r := src) (by simp)
  obtain ⟨c, hc⟩ := hr.get (r := .r0) (by simp)
  rw [compareExchange32, withReg_written hb, withReg_written hv, withReg_written hc]
  exact accessed_atomic _ fun _ _ => ⟨_, rfl, rfl, rfl⟩

theorem accessed_compareExchange64 (hr : AllWritten s [dst, src, .r0]) (hb : s.reg dst = .written base) :
    Accessed s (compareExchange64 s dst src off) (s.atomicFault (effectiveAddress base off) 8) := by
  obtain ⟨v, hv⟩ := hr.get (r := src) (by simp)
  obtain ⟨c, hc⟩ := hr.get (r := .r0) (by simp)
  rw [compareExchange64, withReg_written hb, withReg_written hv, withReg_written hc]
  exact accessed_atomic _ fun _ _ => ⟨_, rfl, rfl, rfl⟩

end

/-- What `exec_access` says of one instruction: nothing where it makes no access. -/
def AccessLaw (i : Instr) (s : State) : Prop :=
  match memoryAccess i with
  | none => True
  | some acc => ∀ base, AllWritten s (readRegs s i) → s.reg acc.base = .written base →
      Accessed s (exec i s) (s.accessFault (effectiveAddress base acc.off) acc.size acc.kind)

theorem accessLaw_ldxw (dst src : Reg) (off : Offset) (s : State) :
    AccessLaw (.ldxw dst src off) s :=
  fun _ _ hb => accessed_load hb

theorem accessLaw_ldxh (dst src : Reg) (off : Offset) (s : State) :
    AccessLaw (.ldxh dst src off) s :=
  fun _ _ hb => accessed_load hb

theorem accessLaw_ldxb (dst src : Reg) (off : Offset) (s : State) :
    AccessLaw (.ldxb dst src off) s :=
  fun _ _ hb => accessed_load hb

theorem accessLaw_ldxdw (dst src : Reg) (off : Offset) (s : State) :
    AccessLaw (.ldxdw dst src off) s :=
  fun _ _ hb => accessed_load hb

theorem accessLaw_ldxsw (dst src : Reg) (off : Offset) (s : State) :
    AccessLaw (.ldxsw dst src off) s :=
  fun _ _ hb => accessed_loadSigned hb

theorem accessLaw_ldxsh (dst src : Reg) (off : Offset) (s : State) :
    AccessLaw (.ldxsh dst src off) s :=
  fun _ _ hb => accessed_loadSigned hb

theorem accessLaw_ldxsb (dst src : Reg) (off : Offset) (s : State) :
    AccessLaw (.ldxsb dst src off) s :=
  fun _ _ hb => accessed_loadSigned hb

theorem accessLaw_stw (dst : Reg) (off : Offset) (imm : Word32) (s : State) :
    AccessLaw (.stw dst off imm) s :=
  fun _ _ hb => accessed_storeImm hb

theorem accessLaw_sth (dst : Reg) (off : Offset) (imm : Word32) (s : State) :
    AccessLaw (.sth dst off imm) s :=
  fun _ _ hb => accessed_storeImm hb

theorem accessLaw_stb (dst : Reg) (off : Offset) (imm : Word32) (s : State) :
    AccessLaw (.stb dst off imm) s :=
  fun _ _ hb => accessed_storeImm hb

theorem accessLaw_stdw (dst : Reg) (off : Offset) (imm : Word32) (s : State) :
    AccessLaw (.stdw dst off imm) s :=
  fun _ _ hb => accessed_storeImm hb

theorem accessLaw_stxw (dst src : Reg) (off : Offset) (s : State) :
    AccessLaw (.stxw dst src off) s :=
  fun _ hr hb => accessed_storeReg hr hb

theorem accessLaw_stxh (dst src : Reg) (off : Offset) (s : State) :
    AccessLaw (.stxh dst src off) s :=
  fun _ hr hb => accessed_storeReg hr hb

theorem accessLaw_stxb (dst src : Reg) (off : Offset) (s : State) :
    AccessLaw (.stxb dst src off) s :=
  fun _ hr hb => accessed_storeReg hr hb

theorem accessLaw_stxdw (dst src : Reg) (off : Offset) (s : State) :
    AccessLaw (.stxdw dst src off) s :=
  fun _ hr hb => accessed_storeReg hr hb

theorem accessLaw_aadd32 (dst src : Reg) (off : Offset) (s : State) :
    AccessLaw (.aadd32 dst src off) s :=
  fun _ hr hb => accessed_atomic32 hr hb _

theorem accessLaw_aadd32Fetch (dst src : Reg) (off : Offset) (s : State) :
    AccessLaw (.aadd32Fetch dst src off) s :=
  fun _ hr hb => accessed_atomicFetch32 hr hb _

theorem accessLaw_aor32 (dst src : Reg) (off : Offset) (s : State) :
    AccessLaw (.aor32 dst src off) s :=
  fun _ hr hb => accessed_atomic32 hr hb _

theorem accessLaw_aor32Fetch (dst src : Reg) (off : Offset) (s : State) :
    AccessLaw (.aor32Fetch dst src off) s :=
  fun _ hr hb => accessed_atomicFetch32 hr hb _

theorem accessLaw_aand32 (dst src : Reg) (off : Offset) (s : State) :
    AccessLaw (.aand32 dst src off) s :=
  fun _ hr hb => accessed_atomic32 hr hb _

theorem accessLaw_aand32Fetch (dst src : Reg) (off : Offset) (s : State) :
    AccessLaw (.aand32Fetch dst src off) s :=
  fun _ hr hb => accessed_atomicFetch32 hr hb _

theorem accessLaw_axor32 (dst src : Reg) (off : Offset) (s : State) :
    AccessLaw (.axor32 dst src off) s :=
  fun _ hr hb => accessed_atomic32 hr hb _

theorem accessLaw_axor32Fetch (dst src : Reg) (off : Offset) (s : State) :
    AccessLaw (.axor32Fetch dst src off) s :=
  fun _ hr hb => accessed_atomicFetch32 hr hb _

theorem accessLaw_axchg32 (dst src : Reg) (off : Offset) (s : State) :
    AccessLaw (.axchg32 dst src off) s :=
  fun _ hr hb => accessed_atomicFetch32 hr hb fun _ v => v

theorem accessLaw_acmpxchg32 (dst src : Reg) (off : Offset) (s : State) :
    AccessLaw (.acmpxchg32 dst src off) s :=
  fun _ hr hb => accessed_compareExchange32 hr hb

theorem accessLaw_aadd64 (dst src : Reg) (off : Offset) (s : State) :
    AccessLaw (.aadd64 dst src off) s :=
  fun _ hr hb => accessed_atomic64 hr hb _

theorem accessLaw_aadd64Fetch (dst src : Reg) (off : Offset) (s : State) :
    AccessLaw (.aadd64Fetch dst src off) s :=
  fun _ hr hb => accessed_atomicFetch64 hr hb _

theorem accessLaw_aor64 (dst src : Reg) (off : Offset) (s : State) :
    AccessLaw (.aor64 dst src off) s :=
  fun _ hr hb => accessed_atomic64 hr hb _

theorem accessLaw_aor64Fetch (dst src : Reg) (off : Offset) (s : State) :
    AccessLaw (.aor64Fetch dst src off) s :=
  fun _ hr hb => accessed_atomicFetch64 hr hb _

theorem accessLaw_aand64 (dst src : Reg) (off : Offset) (s : State) :
    AccessLaw (.aand64 dst src off) s :=
  fun _ hr hb => accessed_atomic64 hr hb _

theorem accessLaw_aand64Fetch (dst src : Reg) (off : Offset) (s : State) :
    AccessLaw (.aand64Fetch dst src off) s :=
  fun _ hr hb => accessed_atomicFetch64 hr hb _

theorem accessLaw_axor64 (dst src : Reg) (off : Offset) (s : State) :
    AccessLaw (.axor64 dst src off) s :=
  fun _ hr hb => accessed_atomic64 hr hb _

theorem accessLaw_axor64Fetch (dst src : Reg) (off : Offset) (s : State) :
    AccessLaw (.axor64Fetch dst src off) s :=
  fun _ hr hb => accessed_atomicFetch64 hr hb _

theorem accessLaw_axchg64 (dst src : Reg) (off : Offset) (s : State) :
    AccessLaw (.axchg64 dst src off) s :=
  fun _ hr hb => accessed_atomicFetch64 hr hb fun _ v => v

theorem accessLaw_acmpxchg64 (dst src : Reg) (off : Offset) (s : State) :
    AccessLaw (.acmpxchg64 dst src off) s :=
  fun _ hr hb => accessed_compareExchange64 hr hb

theorem exec_accessLaw (i : Instr) (s : State) : AccessLaw i s :=
  match i with
  | .ldxw _ _ _ => accessLaw_ldxw _ _ _ s
  | .ldxh _ _ _ => accessLaw_ldxh _ _ _ s
  | .ldxb _ _ _ => accessLaw_ldxb _ _ _ s
  | .ldxdw _ _ _ => accessLaw_ldxdw _ _ _ s
  | .ldxsw _ _ _ => accessLaw_ldxsw _ _ _ s
  | .ldxsh _ _ _ => accessLaw_ldxsh _ _ _ s
  | .ldxsb _ _ _ => accessLaw_ldxsb _ _ _ s
  | .stw _ _ _ => accessLaw_stw _ _ _ s
  | .sth _ _ _ => accessLaw_sth _ _ _ s
  | .stb _ _ _ => accessLaw_stb _ _ _ s
  | .stdw _ _ _ => accessLaw_stdw _ _ _ s
  | .stxw _ _ _ => accessLaw_stxw _ _ _ s
  | .stxh _ _ _ => accessLaw_stxh _ _ _ s
  | .stxb _ _ _ => accessLaw_stxb _ _ _ s
  | .stxdw _ _ _ => accessLaw_stxdw _ _ _ s
  | .aadd32 _ _ _ => accessLaw_aadd32 _ _ _ s
  | .aadd32Fetch _ _ _ => accessLaw_aadd32Fetch _ _ _ s
  | .aor32 _ _ _ => accessLaw_aor32 _ _ _ s
  | .aor32Fetch _ _ _ => accessLaw_aor32Fetch _ _ _ s
  | .aand32 _ _ _ => accessLaw_aand32 _ _ _ s
  | .aand32Fetch _ _ _ => accessLaw_aand32Fetch _ _ _ s
  | .axor32 _ _ _ => accessLaw_axor32 _ _ _ s
  | .axor32Fetch _ _ _ => accessLaw_axor32Fetch _ _ _ s
  | .axchg32 _ _ _ => accessLaw_axchg32 _ _ _ s
  | .acmpxchg32 _ _ _ => accessLaw_acmpxchg32 _ _ _ s
  | .aadd64 _ _ _ => accessLaw_aadd64 _ _ _ s
  | .aadd64Fetch _ _ _ => accessLaw_aadd64Fetch _ _ _ s
  | .aor64 _ _ _ => accessLaw_aor64 _ _ _ s
  | .aor64Fetch _ _ _ => accessLaw_aor64Fetch _ _ _ s
  | .aand64 _ _ _ => accessLaw_aand64 _ _ _ s
  | .aand64Fetch _ _ _ => accessLaw_aand64Fetch _ _ _ s
  | .axor64 _ _ _ => accessLaw_axor64 _ _ _ s
  | .axor64Fetch _ _ _ => accessLaw_axor64Fetch _ _ _ s
  | .axchg64 _ _ _ => accessLaw_axchg64 _ _ _ s
  | .acmpxchg64 _ _ _ => accessLaw_acmpxchg64 _ _ _ s
  | .add32K .. | .add32X .. | .add64K .. | .add64X .. | .sub32K .. | .sub32X .. | .sub64K .. | .sub64X ..
  | .mul32K .. | .mul32X .. | .mul64K .. | .mul64X .. | .div32K .. | .div32X .. | .div64K .. | .div64X ..
  | .sdiv32K .. | .sdiv32X .. | .sdiv64K .. | .sdiv64X .. | .or32K .. | .or32X .. | .or64K .. | .or64X ..
  | .and32K .. | .and32X .. | .and64K .. | .and64X .. | .lsh32K .. | .lsh32X .. | .lsh64K .. | .lsh64X ..
  | .rsh32K .. | .rsh32X .. | .rsh64K .. | .rsh64X .. | .neg32 .. | .neg64 .. | .mod32K .. | .mod32X ..
  | .mod64K .. | .mod64X .. | .smod32K .. | .smod32X .. | .smod64K .. | .smod64X .. | .xor32K .. | .xor32X ..
  | .xor64K .. | .xor64X .. | .mov32K .. | .mov32X .. | .mov64K .. | .mov64X .. | .movsx32From8 ..
  | .movsx32From16 .. | .movsx64From8 .. | .movsx64From16 .. | .movsx64From32 .. | .arsh32K .. | .arsh32X ..
  | .arsh64K .. | .arsh64X .. | .le16 .. | .le32 .. | .le64 .. | .be16 .. | .be32 .. | .be64 .. | .bswap16 ..
  | .bswap32 .. | .bswap64 .. | .ja .. | .ja32 .. | .jeq64K .. | .jeq64X .. | .jeq32K .. | .jeq32X ..
  | .jgt64K .. | .jgt64X .. | .jgt32K .. | .jgt32X .. | .jge64K .. | .jge64X .. | .jge32K .. | .jge32X ..
  | .jset64K .. | .jset64X .. | .jset32K .. | .jset32X .. | .jne64K .. | .jne64X .. | .jne32K .. | .jne32X ..
  | .jsgt64K .. | .jsgt64X .. | .jsgt32K .. | .jsgt32X .. | .jsge64K .. | .jsge64X .. | .jsge32K ..
  | .jsge32X .. | .jlt64K .. | .jlt64X .. | .jlt32K .. | .jlt32X .. | .jle64K .. | .jle64X .. | .jle32K ..
  | .jle32X .. | .jslt64K .. | .jslt64X .. | .jslt32K .. | .jslt32X .. | .jsle64K .. | .jsle64X .. | .jsle32K ..
  | .jsle32X .. | .callHelper .. | .callLocal .. | .callBtf .. | .exit | .lddw .. | .ldMapFd .. | .ldMapValFd ..
  | .ldVarAddr .. | .ldCodeAddr .. | .ldMapIdx .. | .ldMapValIdx .. | .ldabsw .. | .ldabsh .. | .ldabsb ..
  | .ldindw .. | .ldindh .. | .ldindb .. => trivial

/-- Every access to data memory, with the registers it reads written, raises its fault or completes. -/
theorem exec_access {i : Instr} {s : State} {acc : Access} {base : Word} (ha : memoryAccess i = some acc)
    (hr : AllWritten s (readRegs s i)) (hb : s.reg acc.base = .written base) :
    Accessed s (exec i s) (s.accessFault (effectiveAddress base acc.off) acc.size acc.kind) := by
  have h := exec_accessLaw i s
  rw [AccessLaw, ha] at h
  exact h base hr hb

end Sys2Proof.Machine
end

