-- ==== Sys2Proof/Laws/Decode.lean ====
section
/-!
SUPPORT. Fields and slots: reading the fields of a slot gives back what was laid out, on either host, and the other way
round; a register's field names the register.
-/

namespace Sys2Proof

@[simp] theorem Reg.ofField_toField (r : Reg) : Reg.ofField r.toField = some r := by
  cases r <;> rfl

/-- A field that names a register is that register's field. -/
theorem Reg.toField_of_ofField {n : BitVec 4} {r : Reg} (h : Reg.ofField n = some r) : r.toField = n := by
  have key : ∀ m : BitVec 4, (Reg.ofField m).all (fun q => q.toField == m) = true := by decide
  have := key n
  rw [h] at this
  simpa using this

@[simp] theorem regField_toField (r : Reg) (k : Reg → Decoded) : regField r.toField k = k r := by
  simp [regField]

/-- The fields laid out in a slot are read back from it, on either host (`30_encoding.md` R61 to R65). -/
@[simp] theorem fieldsOf_slotOf (e : Endian) (f : Fields) : fieldsOf e (slotOf e f) = f := by
  obtain ⟨o, d, s, off, imm⟩ := f
  cases e <;>
    (simp only [fieldsOf, slotOf, canonicalWord, byteOf, swapped16, swapped32, Fields.mk.injEq]
     refine ⟨?_, ?_, ?_, ?_, ?_⟩ <;> ext i hi <;>
       simp only [BitVec.getElem_append, BitVec.getElem_extractLsb', BitVec.getLsbD_append,
         BitVec.getLsbD_extractLsb'] <;>
       interval_cases i <;> simp)

/-- A slot is the layout of its own fields, on either host. -/
@[simp] theorem slotOf_fieldsOf (e : Endian) (x : Slot) : slotOf e (fieldsOf e x) = x := by
  cases e <;>
    (simp only [fieldsOf, slotOf, canonicalWord, byteOf, swapped16, swapped32]
     ext i hi
     simp only [BitVec.getElem_append, BitVec.getElem_extractLsb', BitVec.getLsbD_append,
       BitVec.getLsbD_extractLsb']
     interval_cases i <;> simp)

/-- The encoder leaves zero every field the instruction does not use (`30_encoding.md` R66). -/
@[simp] theorem encodeFields_keep (i : Instr) : (encodeFields i).keep (usedFields i) = encodeFields i := by
  cases i <;> rfl

end Sys2Proof
end

