-- ==== Sys2Proof/Laws/Effect.lean ====
section
/-!
SUPPORT. Everything an instruction can do, said once: `exec` always answers a next state (`exec_next`), and that state is
one of the shapes of `Effect` (`exec_effect`). Frames and invariants over all instructions are case analyses of
`Effect`; no proof need unfold a meaning for them.
-/

namespace Sys2Proof.Machine

/-- The slots of an instruction (`10_state.md` R23): two for the wide ones. -/
def slotsOf (i : Instr) : Int := if (encodeNext i).isSome then 2 else 1

/-- What executing `i` in `s` can lead to. -/
inductive Effect (i : Instr) (s : State) : State → Prop where
  /-- A fault: only the status changes. -/
  | raised (c : Cause) : Effect i s { s with status := .faulted c s.pc }
  /-- One register written; no byte of memory. `n` draws from the oracle for a load, else 0. -/
  | wrote (r : Reg) (v : Word) (n : Nat) (hr : writtenReg i = some r) :
      Effect i s { s with regs := s.regs.set r (.written v), pc := s.pc + slotsOf i, draws := s.draws + n }
  /-- A conditional or unconditional jump: only the program counter moves. -/
  | jumped (t : Int) (hw : writtenReg i = none) (hm : memoryAccess i = none)
      (hj : ∃ f : Offset, t = s.pc + 1 + f.toInt ∨ t = s.pc + 1 ∨ ∃ m : Word32, t = s.pc + 1 + m.toInt)
      (hi : i ≠ .exit) (hl : ∀ m, i ≠ .callLocal m) (hc : ∀ m, i ≠ .callHelper m) (hb : ∀ m, i ≠ .callBtf m) :
      Effect i s { s with pc := t }
  /-- A store: the access's bytes, and the program counter. -/
  | stored (acc : Access) (base v : Word) (ha : memoryAccess i = some acc) (hk : acc.kind = .write)
      (hb : s.reg acc.base = .written base) (hw : writtenReg i = none)
      (hf : s.plainFault (effectiveAddress base acc.off) acc.size .write = none) :
      Effect i s ((s.stored (effectiveAddress base acc.off) acc.size v).advance 1)
  /-- A simple atomic: the access's bytes. -/
  | updated (acc : Access) (base v : Word) (ha : memoryAccess i = some acc) (hk : acc.kind = .atomic)
      (hb : s.reg acc.base = .written base) (hw : writtenReg i = none)
      (hf : s.atomicFault (effectiveAddress base acc.off) acc.size = none) :
      Effect i s (((s.drawn acc.size).stored (effectiveAddress base acc.off) acc.size v).advance 1)
  /-- A fetching atomic: the access's bytes, then the register. -/
  | fetched (acc : Access) (base v old : Word) (r : Reg) (ha : memoryAccess i = some acc) (hk : acc.kind = .atomic)
      (hb : s.reg acc.base = .written base) (hr : writtenReg i = some r)
      (hf : s.atomicFault (effectiveAddress base acc.off) acc.size = none) :
      Effect i s (((s.drawn acc.size).stored (effectiveAddress base acc.off) acc.size v).finish r old)
  /-- A helper call. -/
  | helped (ans : HelperAnswer) (hi : ∃ m, i = .callHelper m ∨ i = .callBtf m) : Effect i s (s.helperReturn ans)
  /-- A program-local call. -/
  | called (imm : Word32) (hi : i = .callLocal imm) (hd : s.atMaxDepth = false) :
      Effect i s ((s.pushFrame (s.pc + 1)).jumpTo (jumpTarget s.pc imm.toInt))
  /-- A return. -/
  | returned (f : Frame) (rest : List Frame) (hi : i = .exit) (hf : s.frames = f :: rest) :
      Effect i s ((s.popFrame f rest).jumpTo f.ret)
  /-- The end of the run. -/
  | ended (v : Word) (hi : i = .exit) (hf : s.frames = []) (hv : s.reg .r0 = .written v) :
      Effect i s { s with status := .exited v }

/-- The outcome is a next state of an effect's shape. -/
abbrev Does (i : Instr) (s : State) (o : Out) : Prop := ∃ t, o = .next t ∧ Effect i s t

theorem does_raise {i : Instr} {s : State} (c : Cause) : Does i s (raise s c) := ⟨_, rfl, .raised c⟩

/-- Reading a register: a fault, or what follows. -/
theorem does_withReg {i : Instr} {s : State} (r : Reg) {k : Word → Out}
    (hk : ∀ v, s.reg r = .written v → Does i s (k v)) : Does i s (withReg s r k) := by
  rcases withReg_cases s r k with ⟨v, hv, h⟩ | ⟨_, h⟩
  · rw [h]
    exact hk v hv
  · rw [h]
    exact does_raise _

/-- Writing the destination of a basic instruction. -/
theorem does_finish {i : Instr} {s : State} {r : Reg} (v : Word) (hr : writtenReg i = some r)
    (hs : slotsOf i = 1) : Does i s (.next (s.finish r v)) := by
  refine ⟨_, rfl, ?_⟩
  have := Effect.wrote (i := i) (s := s) r v 0 hr
  rwa [hs] at this

/-- A load of a basic instruction. -/
theorem does_memRead {i : Instr} {s : State} {r : Reg} (ea : Word) (n : Nat) (g : Word → Word)
    (hr : writtenReg i = some r) (hs : slotsOf i = 1) :
    Does i s (memRead s ea n fun v t => .next (t.finish r (g v))) := by
  rcases memRead_cases s ea n (fun v t => .next (t.finish r (g v))) with ⟨c, _, h⟩ | ⟨_, h⟩
  · rw [h]
    exact does_raise _
  · rw [h]
    refine ⟨_, rfl, ?_⟩
    have := Effect.wrote (i := i) (s := s) r (g (s.valueAt ea n)) n hr
    rwa [hs] at this

/-- A store. -/
theorem does_memWrite {i : Instr} {s : State} {acc : Access} {base : Word} (v : Word)
    (ha : memoryAccess i = some acc) (hk : acc.kind = .write) (hb : s.reg acc.base = .written base)
    (hw : writtenReg i = none) :
    Does i s (memWrite s (effectiveAddress base acc.off) acc.size v fun t => .next (t.advance 1)) := by
  rcases memWrite_cases s (effectiveAddress base acc.off) acc.size v (fun t => .next (t.advance 1)) with
    ⟨c, _, h⟩ | ⟨hf, h⟩
  · rw [h]
    exact does_raise _
  · rw [h]
    exact ⟨_, rfl, .stored acc base v ha hk hb hw hf⟩

/-- A simple atomic. -/
theorem does_atomic {i : Instr} {s : State} {acc : Access} {base : Word} (g : Word → Word)
    (ha : memoryAccess i = some acc) (hk : acc.kind = .atomic) (hb : s.reg acc.base = .written base)
    (hw : writtenReg i = none) :
    Does i s (atomicRMW s (effectiveAddress base acc.off) acc.size g fun _ t => .next (t.advance 1)) := by
  rcases atomicRMW_cases s (effectiveAddress base acc.off) acc.size g (fun _ t => .next (t.advance 1)) with
    ⟨c, _, h⟩ | ⟨hf, h⟩
  · rw [h]
    exact does_raise _
  · rw [h]
    exact ⟨_, rfl, .updated acc base _ ha hk hb hw hf⟩

/-- A fetching atomic. -/
theorem does_fetch {i : Instr} {s : State} {acc : Access} {base : Word} (g : Word → Word) (old : Word → Word)
    {r : Reg} (ha : memoryAccess i = some acc) (hk : acc.kind = .atomic) (hb : s.reg acc.base = .written base)
    (hr : writtenReg i = some r) :
    Does i s (atomicRMW s (effectiveAddress base acc.off) acc.size g fun v t => .next (t.finish r (old v))) := by
  rcases atomicRMW_cases s (effectiveAddress base acc.off) acc.size g (fun v t => .next (t.finish r (old v))) with
    ⟨c, _, h⟩ | ⟨hf, h⟩
  · rw [h]
    exact does_raise _
  · rw [h]
    exact ⟨_, rfl, .fetched acc base _ _ r ha hk hb hr hf⟩

/-- A taken or not taken conditional jump. -/
theorem does_branch {i : Instr} {s : State} (off : Offset) (taken : Bool) (hw : writtenReg i = none)
    (hm : memoryAccess i = none) (hi : i ≠ .exit) (hl : ∀ m, i ≠ .callLocal m) (hc : ∀ m, i ≠ .callHelper m)
    (hb : ∀ m, i ≠ .callBtf m) : Does i s (.next (s.branch off taken)) := by
  refine ⟨_, rfl, ?_⟩
  rw [State.branch_eq]
  refine .jumped _ hw hm ⟨off, ?_⟩ hi hl hc hb
  cases taken
  · exact .inr (.inl rfl)
  · exact .inl rfl

/-- An address from the platform. -/
theorem does_loadAddress {i : Instr} {s : State} {r : Reg} (a : Option Word) (hr : writtenReg i = some r)
    (hs : slotsOf i = 2) : Does i s (loadAddress s r a) := by
  cases a with
  | none => exact does_raise _
  | some v =>
    refine ⟨_, rfl, ?_⟩
    have := Effect.wrote (i := i) (s := s) r v 0 hr
    rwa [hs] at this

theorem does_callHelper {i : Instr} {s : State} (kind : CallKind) (imm : Word32)
    (hi : ∃ m, i = .callHelper m ∨ i = .callBtf m) : Does i s (callHelper kind imm s) := by
  rcases callHelper_cases kind imm s with ⟨c, h⟩ | ⟨ans, h⟩
  · rw [h]
    exact does_raise _
  · rw [h]
    exact ⟨_, rfl, .helped ans hi⟩

theorem does_callLocal (s : State) (imm : Word32) : Does (.callLocal imm) s (callLocal imm s) := by
  unfold callLocal
  split
  · exact does_raise _
  · rename_i h
    exact ⟨_, rfl, .called imm rfl (by simpa using h)⟩

theorem does_exitFrame (s : State) : Does .exit s (exitFrame s) := by
  unfold exitFrame
  split
  · rename_i hf
    exact does_withReg _ fun v hv => ⟨_, rfl, .ended v rfl hf hv⟩
  · rename_i f rest hf
    exact ⟨_, rfl, .returned f rest rfl hf⟩

theorem does_legacyPacket {i : Instr} {s : State} : Does i s (legacyPacket s) := by
  unfold legacyPacket
  split <;> exact does_raise _

/-- Every instruction answers a next state, and that state has one of the shapes of `Effect`. -/
theorem exec_does (i : Instr) (s : State) : Does i s (exec i s) :=
  match i with
  | .add32K _ _ => does_withReg _ fun _ _ => does_finish _ rfl rfl
  | .add32X _ _ => does_withReg _ fun _ _ => does_withReg _ fun _ _ => does_finish _ rfl rfl
  | .add64K _ _ => does_withReg _ fun _ _ => does_finish _ rfl rfl
  | .add64X _ _ => does_withReg _ fun _ _ => does_withReg _ fun _ _ => does_finish _ rfl rfl
  | .sub32K _ _ => does_withReg _ fun _ _ => does_finish _ rfl rfl
  | .sub32X _ _ => does_withReg _ fun _ _ => does_withReg _ fun _ _ => does_finish _ rfl rfl
  | .sub64K _ _ => does_withReg _ fun _ _ => does_finish _ rfl rfl
  | .sub64X _ _ => does_withReg _ fun _ _ => does_withReg _ fun _ _ => does_finish _ rfl rfl
  | .mul32K _ _ => does_withReg _ fun _ _ => does_finish _ rfl rfl
  | .mul32X _ _ => does_withReg _ fun _ _ => does_withReg _ fun _ _ => does_finish _ rfl rfl
  | .mul64K _ _ => does_withReg _ fun _ _ => does_finish _ rfl rfl
  | .mul64X _ _ => does_withReg _ fun _ _ => does_withReg _ fun _ _ => does_finish _ rfl rfl
  | .div32K _ _ => does_withReg _ fun _ _ => does_finish _ rfl rfl
  | .div32X _ _ => does_withReg _ fun _ _ => does_withReg _ fun _ _ => does_finish _ rfl rfl
  | .div64K _ _ => does_withReg _ fun _ _ => does_finish _ rfl rfl
  | .div64X _ _ => does_withReg _ fun _ _ => does_withReg _ fun _ _ => does_finish _ rfl rfl
  | .sdiv32K _ _ => does_withReg _ fun _ _ => does_finish _ rfl rfl
  | .sdiv32X _ _ => does_withReg _ fun _ _ => does_withReg _ fun _ _ => does_finish _ rfl rfl
  | .sdiv64K _ _ => does_withReg _ fun _ _ => does_finish _ rfl rfl
  | .sdiv64X _ _ => does_withReg _ fun _ _ => does_withReg _ fun _ _ => does_finish _ rfl rfl
  | .or32K _ _ => does_withReg _ fun _ _ => does_finish _ rfl rfl
  | .or32X _ _ => does_withReg _ fun _ _ => does_withReg _ fun _ _ => does_finish _ rfl rfl
  | .or64K _ _ => does_withReg _ fun _ _ => does_finish _ rfl rfl
  | .or64X _ _ => does_withReg _ fun _ _ => does_withReg _ fun _ _ => does_finish _ rfl rfl
  | .and32K _ _ => does_withReg _ fun _ _ => does_finish _ rfl rfl
  | .and32X _ _ => does_withReg _ fun _ _ => does_withReg _ fun _ _ => does_finish _ rfl rfl
  | .and64K _ _ => does_withReg _ fun _ _ => does_finish _ rfl rfl
  | .and64X _ _ => does_withReg _ fun _ _ => does_withReg _ fun _ _ => does_finish _ rfl rfl
  | .lsh32K _ _ => does_withReg _ fun _ _ => does_finish _ rfl rfl
  | .lsh32X _ _ => does_withReg _ fun _ _ => does_withReg _ fun _ _ => does_finish _ rfl rfl
  | .lsh64K _ _ => does_withReg _ fun _ _ => does_finish _ rfl rfl
  | .lsh64X _ _ => does_withReg _ fun _ _ => does_withReg _ fun _ _ => does_finish _ rfl rfl
  | .rsh32K _ _ => does_withReg _ fun _ _ => does_finish _ rfl rfl
  | .rsh32X _ _ => does_withReg _ fun _ _ => does_withReg _ fun _ _ => does_finish _ rfl rfl
  | .rsh64K _ _ => does_withReg _ fun _ _ => does_finish _ rfl rfl
  | .rsh64X _ _ => does_withReg _ fun _ _ => does_withReg _ fun _ _ => does_finish _ rfl rfl
  | .neg32 _ => does_withReg _ fun _ _ => does_finish _ rfl rfl
  | .neg64 _ => does_withReg _ fun _ _ => does_finish _ rfl rfl
  | .mod32K _ _ => does_withReg _ fun _ _ => does_finish _ rfl rfl
  | .mod32X _ _ => does_withReg _ fun _ _ => does_withReg _ fun _ _ => does_finish _ rfl rfl
  | .mod64K _ _ => does_withReg _ fun _ _ => does_finish _ rfl rfl
  | .mod64X _ _ => does_withReg _ fun _ _ => does_withReg _ fun _ _ => does_finish _ rfl rfl
  | .smod32K _ _ => does_withReg _ fun _ _ => does_finish _ rfl rfl
  | .smod32X _ _ => does_withReg _ fun _ _ => does_withReg _ fun _ _ => does_finish _ rfl rfl
  | .smod64K _ _ => does_withReg _ fun _ _ => does_finish _ rfl rfl
  | .smod64X _ _ => does_withReg _ fun _ _ => does_withReg _ fun _ _ => does_finish _ rfl rfl
  | .xor32K _ _ => does_withReg _ fun _ _ => does_finish _ rfl rfl
  | .xor32X _ _ => does_withReg _ fun _ _ => does_withReg _ fun _ _ => does_finish _ rfl rfl
  | .xor64K _ _ => does_withReg _ fun _ _ => does_finish _ rfl rfl
  | .xor64X _ _ => does_withReg _ fun _ _ => does_withReg _ fun _ _ => does_finish _ rfl rfl
  | .mov32K _ _ => does_finish _ rfl rfl
  | .mov32X _ _ => does_withReg _ fun _ _ => does_finish _ rfl rfl
  | .mov64K _ _ => does_finish _ rfl rfl
  | .mov64X _ _ => does_withReg _ fun _ _ => does_finish _ rfl rfl
  | .movsx32From8 _ _ => does_withReg _ fun _ _ => does_finish _ rfl rfl
  | .movsx32From16 _ _ => does_withReg _ fun _ _ => does_finish _ rfl rfl
  | .movsx64From8 _ _ => does_withReg _ fun _ _ => does_finish _ rfl rfl
  | .movsx64From16 _ _ => does_withReg _ fun _ _ => does_finish _ rfl rfl
  | .movsx64From32 _ _ => does_withReg _ fun _ _ => does_finish _ rfl rfl
  | .arsh32K _ _ => does_withReg _ fun _ _ => does_finish _ rfl rfl
  | .arsh32X _ _ => does_withReg _ fun _ _ => does_withReg _ fun _ _ => does_finish _ rfl rfl
  | .arsh64K _ _ => does_withReg _ fun _ _ => does_finish _ rfl rfl
  | .arsh64X _ _ => does_withReg _ fun _ _ => does_withReg _ fun _ _ => does_finish _ rfl rfl
  | .le16 _ => does_withReg _ fun _ _ => does_finish _ rfl rfl
  | .le32 _ => does_withReg _ fun _ _ => does_finish _ rfl rfl
  | .le64 _ => does_withReg _ fun _ _ => does_finish _ rfl rfl
  | .be16 _ => does_withReg _ fun _ _ => does_finish _ rfl rfl
  | .be32 _ => does_withReg _ fun _ _ => does_finish _ rfl rfl
  | .be64 _ => does_withReg _ fun _ _ => does_finish _ rfl rfl
  | .bswap16 _ => does_withReg _ fun _ _ => does_finish _ rfl rfl
  | .bswap32 _ => does_withReg _ fun _ _ => does_finish _ rfl rfl
  | .bswap64 _ => does_withReg _ fun _ _ => does_finish _ rfl rfl
  | .ja off => ⟨_, rfl, .jumped _ rfl rfl ⟨off, .inl rfl⟩ nofun nofun nofun nofun⟩
  | .ja32 imm => ⟨_, rfl, .jumped _ rfl rfl ⟨0, .inr (.inr ⟨imm, rfl⟩)⟩ nofun nofun nofun nofun⟩
  | .jeq64K _ _ _ => does_withReg _ fun _ _ => does_branch _ _ rfl rfl nofun nofun nofun nofun
  | .jeq64X _ _ _ => does_withReg _ fun _ _ => does_withReg _ fun _ _ => does_branch _ _ rfl rfl nofun nofun nofun nofun
  | .jeq32K _ _ _ => does_withReg _ fun _ _ => does_branch _ _ rfl rfl nofun nofun nofun nofun
  | .jeq32X _ _ _ => does_withReg _ fun _ _ => does_withReg _ fun _ _ => does_branch _ _ rfl rfl nofun nofun nofun nofun
  | .jgt64K _ _ _ => does_withReg _ fun _ _ => does_branch _ _ rfl rfl nofun nofun nofun nofun
  | .jgt64X _ _ _ => does_withReg _ fun _ _ => does_withReg _ fun _ _ => does_branch _ _ rfl rfl nofun nofun nofun nofun
  | .jgt32K _ _ _ => does_withReg _ fun _ _ => does_branch _ _ rfl rfl nofun nofun nofun nofun
  | .jgt32X _ _ _ => does_withReg _ fun _ _ => does_withReg _ fun _ _ => does_branch _ _ rfl rfl nofun nofun nofun nofun
  | .jge64K _ _ _ => does_withReg _ fun _ _ => does_branch _ _ rfl rfl nofun nofun nofun nofun
  | .jge64X _ _ _ => does_withReg _ fun _ _ => does_withReg _ fun _ _ => does_branch _ _ rfl rfl nofun nofun nofun nofun
  | .jge32K _ _ _ => does_withReg _ fun _ _ => does_branch _ _ rfl rfl nofun nofun nofun nofun
  | .jge32X _ _ _ => does_withReg _ fun _ _ => does_withReg _ fun _ _ => does_branch _ _ rfl rfl nofun nofun nofun nofun
  | .jset64K _ _ _ => does_withReg _ fun _ _ => does_branch _ _ rfl rfl nofun nofun nofun nofun
  | .jset64X _ _ _ => does_withReg _ fun _ _ => does_withReg _ fun _ _ => does_branch _ _ rfl rfl nofun nofun nofun nofun
  | .jset32K _ _ _ => does_withReg _ fun _ _ => does_branch _ _ rfl rfl nofun nofun nofun nofun
  | .jset32X _ _ _ => does_withReg _ fun _ _ => does_withReg _ fun _ _ => does_branch _ _ rfl rfl nofun nofun nofun nofun
  | .jne64K _ _ _ => does_withReg _ fun _ _ => does_branch _ _ rfl rfl nofun nofun nofun nofun
  | .jne64X _ _ _ => does_withReg _ fun _ _ => does_withReg _ fun _ _ => does_branch _ _ rfl rfl nofun nofun nofun nofun
  | .jne32K _ _ _ => does_withReg _ fun _ _ => does_branch _ _ rfl rfl nofun nofun nofun nofun
  | .jne32X _ _ _ => does_withReg _ fun _ _ => does_withReg _ fun _ _ => does_branch _ _ rfl rfl nofun nofun nofun nofun
  | .jsgt64K _ _ _ => does_withReg _ fun _ _ => does_branch _ _ rfl rfl nofun nofun nofun nofun
  | .jsgt64X _ _ _ => does_withReg _ fun _ _ => does_withReg _ fun _ _ => does_branch _ _ rfl rfl nofun nofun nofun nofun
  | .jsgt32K _ _ _ => does_withReg _ fun _ _ => does_branch _ _ rfl rfl nofun nofun nofun nofun
  | .jsgt32X _ _ _ => does_withReg _ fun _ _ => does_withReg _ fun _ _ => does_branch _ _ rfl rfl nofun nofun nofun nofun
  | .jsge64K _ _ _ => does_withReg _ fun _ _ => does_branch _ _ rfl rfl nofun nofun nofun nofun
  | .jsge64X _ _ _ => does_withReg _ fun _ _ => does_withReg _ fun _ _ => does_branch _ _ rfl rfl nofun nofun nofun nofun
  | .jsge32K _ _ _ => does_withReg _ fun _ _ => does_branch _ _ rfl rfl nofun nofun nofun nofun
  | .jsge32X _ _ _ => does_withReg _ fun _ _ => does_withReg _ fun _ _ => does_branch _ _ rfl rfl nofun nofun nofun nofun
  | .jlt64K _ _ _ => does_withReg _ fun _ _ => does_branch _ _ rfl rfl nofun nofun nofun nofun
  | .jlt64X _ _ _ => does_withReg _ fun _ _ => does_withReg _ fun _ _ => does_branch _ _ rfl rfl nofun nofun nofun nofun
  | .jlt32K _ _ _ => does_withReg _ fun _ _ => does_branch _ _ rfl rfl nofun nofun nofun nofun
  | .jlt32X _ _ _ => does_withReg _ fun _ _ => does_withReg _ fun _ _ => does_branch _ _ rfl rfl nofun nofun nofun nofun
  | .jle64K _ _ _ => does_withReg _ fun _ _ => does_branch _ _ rfl rfl nofun nofun nofun nofun
  | .jle64X _ _ _ => does_withReg _ fun _ _ => does_withReg _ fun _ _ => does_branch _ _ rfl rfl nofun nofun nofun nofun
  | .jle32K _ _ _ => does_withReg _ fun _ _ => does_branch _ _ rfl rfl nofun nofun nofun nofun
  | .jle32X _ _ _ => does_withReg _ fun _ _ => does_withReg _ fun _ _ => does_branch _ _ rfl rfl nofun nofun nofun nofun
  | .jslt64K _ _ _ => does_withReg _ fun _ _ => does_branch _ _ rfl rfl nofun nofun nofun nofun
  | .jslt64X _ _ _ => does_withReg _ fun _ _ => does_withReg _ fun _ _ => does_branch _ _ rfl rfl nofun nofun nofun nofun
  | .jslt32K _ _ _ => does_withReg _ fun _ _ => does_branch _ _ rfl rfl nofun nofun nofun nofun
  | .jslt32X _ _ _ => does_withReg _ fun _ _ => does_withReg _ fun _ _ => does_branch _ _ rfl rfl nofun nofun nofun nofun
  | .jsle64K _ _ _ => does_withReg _ fun _ _ => does_branch _ _ rfl rfl nofun nofun nofun nofun
  | .jsle64X _ _ _ => does_withReg _ fun _ _ => does_withReg _ fun _ _ => does_branch _ _ rfl rfl nofun nofun nofun nofun
  | .jsle32K _ _ _ => does_withReg _ fun _ _ => does_branch _ _ rfl rfl nofun nofun nofun nofun
  | .jsle32X _ _ _ => does_withReg _ fun _ _ => does_withReg _ fun _ _ => does_branch _ _ rfl rfl nofun nofun nofun nofun
  | .callHelper _ => does_callHelper _ _ ⟨_, .inl rfl⟩
  | .callLocal imm => does_callLocal s imm
  | .callBtf _ => does_callHelper _ _ ⟨_, .inr rfl⟩
  | .exit => does_exitFrame s
  | .ldxw _ _ _ => does_withReg _ fun _ _ => does_memRead _ _ id rfl rfl
  | .ldxh _ _ _ => does_withReg _ fun _ _ => does_memRead _ _ id rfl rfl
  | .ldxb _ _ _ => does_withReg _ fun _ _ => does_memRead _ _ id rfl rfl
  | .ldxdw _ _ _ => does_withReg _ fun _ _ => does_memRead _ _ id rfl rfl
  | .ldxsw _ _ _ => does_withReg _ fun _ _ => does_memRead _ _ (signExtendBytes _) rfl rfl
  | .ldxsh _ _ _ => does_withReg _ fun _ _ => does_memRead _ _ (signExtendBytes _) rfl rfl
  | .ldxsb _ _ _ => does_withReg _ fun _ _ => does_memRead _ _ (signExtendBytes _) rfl rfl
  | .stw _ _ _ => does_withReg _ fun _ hb => does_memWrite (acc := ⟨_, _, _, _⟩) _ rfl rfl hb rfl
  | .sth _ _ _ => does_withReg _ fun _ hb => does_memWrite (acc := ⟨_, _, _, _⟩) _ rfl rfl hb rfl
  | .stb _ _ _ => does_withReg _ fun _ hb => does_memWrite (acc := ⟨_, _, _, _⟩) _ rfl rfl hb rfl
  | .stdw _ _ _ => does_withReg _ fun _ hb => does_memWrite (acc := ⟨_, _, _, _⟩) _ rfl rfl hb rfl
  | .stxw _ _ _ => does_withReg _ fun _ hb => does_withReg _ fun _ _ => does_memWrite (acc := ⟨_, _, _, _⟩) _ rfl rfl hb rfl
  | .stxh _ _ _ => does_withReg _ fun _ hb => does_withReg _ fun _ _ => does_memWrite (acc := ⟨_, _, _, _⟩) _ rfl rfl hb rfl
  | .stxb _ _ _ => does_withReg _ fun _ hb => does_withReg _ fun _ _ => does_memWrite (acc := ⟨_, _, _, _⟩) _ rfl rfl hb rfl
  | .stxdw _ _ _ => does_withReg _ fun _ hb => does_withReg _ fun _ _ => does_memWrite (acc := ⟨_, _, _, _⟩) _ rfl rfl hb rfl
  | .aadd32 _ _ _ => does_withReg _ fun _ hb => does_withReg _ fun _ _ => does_atomic (acc := ⟨_, _, _, _⟩) _ rfl rfl hb rfl
  | .aadd32Fetch _ _ _ => does_withReg _ fun _ hb => does_withReg _ fun _ _ => does_fetch (acc := ⟨_, _, _, _⟩) _ (fun v => zext64 (low32 v)) rfl rfl hb rfl
  | .aor32 _ _ _ => does_withReg _ fun _ hb => does_withReg _ fun _ _ => does_atomic (acc := ⟨_, _, _, _⟩) _ rfl rfl hb rfl
  | .aor32Fetch _ _ _ => does_withReg _ fun _ hb => does_withReg _ fun _ _ => does_fetch (acc := ⟨_, _, _, _⟩) _ (fun v => zext64 (low32 v)) rfl rfl hb rfl
  | .aand32 _ _ _ => does_withReg _ fun _ hb => does_withReg _ fun _ _ => does_atomic (acc := ⟨_, _, _, _⟩) _ rfl rfl hb rfl
  | .aand32Fetch _ _ _ => does_withReg _ fun _ hb => does_withReg _ fun _ _ => does_fetch (acc := ⟨_, _, _, _⟩) _ (fun v => zext64 (low32 v)) rfl rfl hb rfl
  | .axor32 _ _ _ => does_withReg _ fun _ hb => does_withReg _ fun _ _ => does_atomic (acc := ⟨_, _, _, _⟩) _ rfl rfl hb rfl
  | .axor32Fetch _ _ _ => does_withReg _ fun _ hb => does_withReg _ fun _ _ => does_fetch (acc := ⟨_, _, _, _⟩) _ (fun v => zext64 (low32 v)) rfl rfl hb rfl
  | .axchg32 _ _ _ => does_withReg _ fun _ hb => does_withReg _ fun _ _ => does_fetch (acc := ⟨_, _, _, _⟩) _ (fun v => zext64 (low32 v)) rfl rfl hb rfl
  | .acmpxchg32 _ _ _ => does_withReg _ fun _ hb => does_withReg _ fun _ _ => does_withReg _ fun _ _ => does_fetch (acc := ⟨_, _, _, _⟩) _ (fun v => zext64 (low32 v)) rfl rfl hb rfl
  | .aadd64 _ _ _ => does_withReg _ fun _ hb => does_withReg _ fun _ _ => does_atomic (acc := ⟨_, _, _, _⟩) _ rfl rfl hb rfl
  | .aadd64Fetch _ _ _ => does_withReg _ fun _ hb => does_withReg _ fun _ _ => does_fetch (acc := ⟨_, _, _, _⟩) _ id rfl rfl hb rfl
  | .aor64 _ _ _ => does_withReg _ fun _ hb => does_withReg _ fun _ _ => does_atomic (acc := ⟨_, _, _, _⟩) _ rfl rfl hb rfl
  | .aor64Fetch _ _ _ => does_withReg _ fun _ hb => does_withReg _ fun _ _ => does_fetch (acc := ⟨_, _, _, _⟩) _ id rfl rfl hb rfl
  | .aand64 _ _ _ => does_withReg _ fun _ hb => does_withReg _ fun _ _ => does_atomic (acc := ⟨_, _, _, _⟩) _ rfl rfl hb rfl
  | .aand64Fetch _ _ _ => does_withReg _ fun _ hb => does_withReg _ fun _ _ => does_fetch (acc := ⟨_, _, _, _⟩) _ id rfl rfl hb rfl
  | .axor64 _ _ _ => does_withReg _ fun _ hb => does_withReg _ fun _ _ => does_atomic (acc := ⟨_, _, _, _⟩) _ rfl rfl hb rfl
  | .axor64Fetch _ _ _ => does_withReg _ fun _ hb => does_withReg _ fun _ _ => does_fetch (acc := ⟨_, _, _, _⟩) _ id rfl rfl hb rfl
  | .axchg64 _ _ _ => does_withReg _ fun _ hb => does_withReg _ fun _ _ => does_fetch (acc := ⟨_, _, _, _⟩) _ id rfl rfl hb rfl
  | .acmpxchg64 _ _ _ => does_withReg _ fun _ hb => does_withReg _ fun _ _ => does_withReg _ fun _ _ => does_fetch (acc := ⟨_, _, _, _⟩) _ id rfl rfl hb rfl
  | .lddw dst imm nextImm => ⟨_, rfl, .wrote dst (wideConstant imm nextImm) 0 rfl⟩
  | .ldMapFd _ _ => does_loadAddress _ rfl rfl
  | .ldMapValFd _ _ _ => does_loadAddress _ rfl rfl
  | .ldVarAddr _ _ => does_loadAddress _ rfl rfl
  | .ldCodeAddr _ _ => does_loadAddress _ rfl rfl
  | .ldMapIdx _ _ => does_loadAddress _ rfl rfl
  | .ldMapValIdx _ _ _ => does_loadAddress _ rfl rfl
  | .ldabsw _ => does_legacyPacket
  | .ldabsh _ => does_legacyPacket
  | .ldabsb _ => does_legacyPacket
  | .ldindw _ _ => does_legacyPacket
  | .ldindh _ _ => does_legacyPacket
  | .ldindb _ _ => does_legacyPacket

/-- Executing an instruction never stops the machine: a fault of the spec is a next state too. -/
theorem exec_next (i : Instr) (s : State) : ∃ t, exec i s = .next t :=
  (exec_does i s).imp fun _ h => h.1

/-- The inversion lemma of `exec`. -/
theorem exec_effect {i : Instr} {s t : State} (h : exec i s = .next t) : Effect i s t := by
  obtain ⟨u, hu, he⟩ := exec_does i s
  rw [hu] at h
  cases h
  exact he

end Sys2Proof.Machine
end

