-- ==== Sys2Proof/Laws/PerInstr.lean ====
section
/-!
SUPPORT. The family `TableRow`: for every instruction, the fields the encoder gives it fit its row of
`opcode_table.json`, transcribed here field by field from the table's own columns (`30_encoding.md` R78). The encoder was
written from Tables R75-T and R78-T and from the instruction rules, so the two are independent readings.
-/

namespace Sys2Proof.Laws.TableRow

/-- What a row of the table says of a field. -/
inductive FieldKind where
  /-- A register number, 0 to 10. -/
  | reg
  /-- Any value: an operand. -/
  | free
  /-- One value: a selecting field, or zero for an unused field. -/
  | fixed (n : Nat)
deriving DecidableEq, Repr

/-- A row of the table: the opcode byte, the four fields, and 'next_imm' of a wide row. -/
structure Row where
  opcode : Nat
  dst : FieldKind
  src : FieldKind
  off : FieldKind
  imm : FieldKind
  nextImm : Option FieldKind
deriving DecidableEq, Repr

/-- A field's value is one the row allows. -/
def allows (k : FieldKind) (n : Nat) : Prop :=
  match k with
  | .reg => n ≤ 10
  | .free => True
  | .fixed m => n = m

/-- The second slot is there exactly when the row is wide, with a 'next_imm' the row allows. -/
def allowsNext (k : Option FieldKind) (n : Option Word32) : Prop :=
  match k, n with
  | none, none => True
  | some k, some v => allows k v.toNat
  | none, some _ => False
  | some _, none => False

/-- The fields of an instruction fit a row. -/
def fits (r : Row) (i : Instr) : Prop :=
  (encodeFields i).opcode.toNat = r.opcode ∧ allows r.dst (encodeFields i).dst.toNat ∧
    allows r.src (encodeFields i).src.toNat ∧ allows r.off (encodeFields i).off.toNat ∧
    allows r.imm (encodeFields i).imm.toNat ∧ allowsNext r.nextImm (encodeNext i)

/-- The row of each instruction. -/
def rowOf : Instr → Row
  | .add32K .. => ⟨0x04, .reg, .fixed 0, .fixed 0, .free, none⟩
  | .add32X .. => ⟨0x0c, .reg, .reg, .fixed 0, .fixed 0, none⟩
  | .add64K .. => ⟨0x07, .reg, .fixed 0, .fixed 0, .free, none⟩
  | .add64X .. => ⟨0x0f, .reg, .reg, .fixed 0, .fixed 0, none⟩
  | .sub32K .. => ⟨0x14, .reg, .fixed 0, .fixed 0, .free, none⟩
  | .sub32X .. => ⟨0x1c, .reg, .reg, .fixed 0, .fixed 0, none⟩
  | .sub64K .. => ⟨0x17, .reg, .fixed 0, .fixed 0, .free, none⟩
  | .sub64X .. => ⟨0x1f, .reg, .reg, .fixed 0, .fixed 0, none⟩
  | .mul32K .. => ⟨0x24, .reg, .fixed 0, .fixed 0, .free, none⟩
  | .mul32X .. => ⟨0x2c, .reg, .reg, .fixed 0, .fixed 0, none⟩
  | .mul64K .. => ⟨0x27, .reg, .fixed 0, .fixed 0, .free, none⟩
  | .mul64X .. => ⟨0x2f, .reg, .reg, .fixed 0, .fixed 0, none⟩
  | .div32K .. => ⟨0x34, .reg, .fixed 0, .fixed 0, .free, none⟩
  | .div32X .. => ⟨0x3c, .reg, .reg, .fixed 0, .fixed 0, none⟩
  | .div64K .. => ⟨0x37, .reg, .fixed 0, .fixed 0, .free, none⟩
  | .div64X .. => ⟨0x3f, .reg, .reg, .fixed 0, .fixed 0, none⟩
  | .sdiv32K .. => ⟨0x34, .reg, .fixed 0, .fixed 1, .free, none⟩
  | .sdiv32X .. => ⟨0x3c, .reg, .reg, .fixed 1, .fixed 0, none⟩
  | .sdiv64K .. => ⟨0x37, .reg, .fixed 0, .fixed 1, .free, none⟩
  | .sdiv64X .. => ⟨0x3f, .reg, .reg, .fixed 1, .fixed 0, none⟩
  | .or32K .. => ⟨0x44, .reg, .fixed 0, .fixed 0, .free, none⟩
  | .or32X .. => ⟨0x4c, .reg, .reg, .fixed 0, .fixed 0, none⟩
  | .or64K .. => ⟨0x47, .reg, .fixed 0, .fixed 0, .free, none⟩
  | .or64X .. => ⟨0x4f, .reg, .reg, .fixed 0, .fixed 0, none⟩
  | .and32K .. => ⟨0x54, .reg, .fixed 0, .fixed 0, .free, none⟩
  | .and32X .. => ⟨0x5c, .reg, .reg, .fixed 0, .fixed 0, none⟩
  | .and64K .. => ⟨0x57, .reg, .fixed 0, .fixed 0, .free, none⟩
  | .and64X .. => ⟨0x5f, .reg, .reg, .fixed 0, .fixed 0, none⟩
  | .lsh32K .. => ⟨0x64, .reg, .fixed 0, .fixed 0, .free, none⟩
  | .lsh32X .. => ⟨0x6c, .reg, .reg, .fixed 0, .fixed 0, none⟩
  | .lsh64K .. => ⟨0x67, .reg, .fixed 0, .fixed 0, .free, none⟩
  | .lsh64X .. => ⟨0x6f, .reg, .reg, .fixed 0, .fixed 0, none⟩
  | .rsh32K .. => ⟨0x74, .reg, .fixed 0, .fixed 0, .free, none⟩
  | .rsh32X .. => ⟨0x7c, .reg, .reg, .fixed 0, .fixed 0, none⟩
  | .rsh64K .. => ⟨0x77, .reg, .fixed 0, .fixed 0, .free, none⟩
  | .rsh64X .. => ⟨0x7f, .reg, .reg, .fixed 0, .fixed 0, none⟩
  | .neg32 .. => ⟨0x84, .reg, .fixed 0, .fixed 0, .fixed 0, none⟩
  | .neg64 .. => ⟨0x87, .reg, .fixed 0, .fixed 0, .fixed 0, none⟩
  | .mod32K .. => ⟨0x94, .reg, .fixed 0, .fixed 0, .free, none⟩
  | .mod32X .. => ⟨0x9c, .reg, .reg, .fixed 0, .fixed 0, none⟩
  | .mod64K .. => ⟨0x97, .reg, .fixed 0, .fixed 0, .free, none⟩
  | .mod64X .. => ⟨0x9f, .reg, .reg, .fixed 0, .fixed 0, none⟩
  | .smod32K .. => ⟨0x94, .reg, .fixed 0, .fixed 1, .free, none⟩
  | .smod32X .. => ⟨0x9c, .reg, .reg, .fixed 1, .fixed 0, none⟩
  | .smod64K .. => ⟨0x97, .reg, .fixed 0, .fixed 1, .free, none⟩
  | .smod64X .. => ⟨0x9f, .reg, .reg, .fixed 1, .fixed 0, none⟩
  | .xor32K .. => ⟨0xa4, .reg, .fixed 0, .fixed 0, .free, none⟩
  | .xor32X .. => ⟨0xac, .reg, .reg, .fixed 0, .fixed 0, none⟩
  | .xor64K .. => ⟨0xa7, .reg, .fixed 0, .fixed 0, .free, none⟩
  | .xor64X .. => ⟨0xaf, .reg, .reg, .fixed 0, .fixed 0, none⟩
  | .mov32K .. => ⟨0xb4, .reg, .fixed 0, .fixed 0, .free, none⟩
  | .mov32X .. => ⟨0xbc, .reg, .reg, .fixed 0, .fixed 0, none⟩
  | .mov64K .. => ⟨0xb7, .reg, .fixed 0, .fixed 0, .free, none⟩
  | .mov64X .. => ⟨0xbf, .reg, .reg, .fixed 0, .fixed 0, none⟩
  | .movsx32From8 .. => ⟨0xbc, .reg, .reg, .fixed 8, .fixed 0, none⟩
  | .movsx32From16 .. => ⟨0xbc, .reg, .reg, .fixed 16, .fixed 0, none⟩
  | .movsx64From8 .. => ⟨0xbf, .reg, .reg, .fixed 8, .fixed 0, none⟩
  | .movsx64From16 .. => ⟨0xbf, .reg, .reg, .fixed 16, .fixed 0, none⟩
  | .movsx64From32 .. => ⟨0xbf, .reg, .reg, .fixed 32, .fixed 0, none⟩
  | .arsh32K .. => ⟨0xc4, .reg, .fixed 0, .fixed 0, .free, none⟩
  | .arsh32X .. => ⟨0xcc, .reg, .reg, .fixed 0, .fixed 0, none⟩
  | .arsh64K .. => ⟨0xc7, .reg, .fixed 0, .fixed 0, .free, none⟩
  | .arsh64X .. => ⟨0xcf, .reg, .reg, .fixed 0, .fixed 0, none⟩
  | .le16 .. => ⟨0xd4, .reg, .fixed 0, .fixed 0, .fixed 16, none⟩
  | .le32 .. => ⟨0xd4, .reg, .fixed 0, .fixed 0, .fixed 32, none⟩
  | .le64 .. => ⟨0xd4, .reg, .fixed 0, .fixed 0, .fixed 64, none⟩
  | .be16 .. => ⟨0xdc, .reg, .fixed 0, .fixed 0, .fixed 16, none⟩
  | .be32 .. => ⟨0xdc, .reg, .fixed 0, .fixed 0, .fixed 32, none⟩
  | .be64 .. => ⟨0xdc, .reg, .fixed 0, .fixed 0, .fixed 64, none⟩
  | .bswap16 .. => ⟨0xd7, .reg, .fixed 0, .fixed 0, .fixed 16, none⟩
  | .bswap32 .. => ⟨0xd7, .reg, .fixed 0, .fixed 0, .fixed 32, none⟩
  | .bswap64 .. => ⟨0xd7, .reg, .fixed 0, .fixed 0, .fixed 64, none⟩
  | .ja .. => ⟨0x05, .fixed 0, .fixed 0, .free, .fixed 0, none⟩
  | .ja32 .. => ⟨0x06, .fixed 0, .fixed 0, .fixed 0, .free, none⟩
  | .jeq64K .. => ⟨0x15, .reg, .fixed 0, .free, .free, none⟩
  | .jeq64X .. => ⟨0x1d, .reg, .reg, .free, .fixed 0, none⟩
  | .jeq32K .. => ⟨0x16, .reg, .fixed 0, .free, .free, none⟩
  | .jeq32X .. => ⟨0x1e, .reg, .reg, .free, .fixed 0, none⟩
  | .jgt64K .. => ⟨0x25, .reg, .fixed 0, .free, .free, none⟩
  | .jgt64X .. => ⟨0x2d, .reg, .reg, .free, .fixed 0, none⟩
  | .jgt32K .. => ⟨0x26, .reg, .fixed 0, .free, .free, none⟩
  | .jgt32X .. => ⟨0x2e, .reg, .reg, .free, .fixed 0, none⟩
  | .jge64K .. => ⟨0x35, .reg, .fixed 0, .free, .free, none⟩
  | .jge64X .. => ⟨0x3d, .reg, .reg, .free, .fixed 0, none⟩
  | .jge32K .. => ⟨0x36, .reg, .fixed 0, .free, .free, none⟩
  | .jge32X .. => ⟨0x3e, .reg, .reg, .free, .fixed 0, none⟩
  | .jset64K .. => ⟨0x45, .reg, .fixed 0, .free, .free, none⟩
  | .jset64X .. => ⟨0x4d, .reg, .reg, .free, .fixed 0, none⟩
  | .jset32K .. => ⟨0x46, .reg, .fixed 0, .free, .free, none⟩
  | .jset32X .. => ⟨0x4e, .reg, .reg, .free, .fixed 0, none⟩
  | .jne64K .. => ⟨0x55, .reg, .fixed 0, .free, .free, none⟩
  | .jne64X .. => ⟨0x5d, .reg, .reg, .free, .fixed 0, none⟩
  | .jne32K .. => ⟨0x56, .reg, .fixed 0, .free, .free, none⟩
  | .jne32X .. => ⟨0x5e, .reg, .reg, .free, .fixed 0, none⟩
  | .jsgt64K .. => ⟨0x65, .reg, .fixed 0, .free, .free, none⟩
  | .jsgt64X .. => ⟨0x6d, .reg, .reg, .free, .fixed 0, none⟩
  | .jsgt32K .. => ⟨0x66, .reg, .fixed 0, .free, .free, none⟩
  | .jsgt32X .. => ⟨0x6e, .reg, .reg, .free, .fixed 0, none⟩
  | .jsge64K .. => ⟨0x75, .reg, .fixed 0, .free, .free, none⟩
  | .jsge64X .. => ⟨0x7d, .reg, .reg, .free, .fixed 0, none⟩
  | .jsge32K .. => ⟨0x76, .reg, .fixed 0, .free, .free, none⟩
  | .jsge32X .. => ⟨0x7e, .reg, .reg, .free, .fixed 0, none⟩
  | .jlt64K .. => ⟨0xa5, .reg, .fixed 0, .free, .free, none⟩
  | .jlt64X .. => ⟨0xad, .reg, .reg, .free, .fixed 0, none⟩
  | .jlt32K .. => ⟨0xa6, .reg, .fixed 0, .free, .free, none⟩
  | .jlt32X .. => ⟨0xae, .reg, .reg, .free, .fixed 0, none⟩
  | .jle64K .. => ⟨0xb5, .reg, .fixed 0, .free, .free, none⟩
  | .jle64X .. => ⟨0xbd, .reg, .reg, .free, .fixed 0, none⟩
  | .jle32K .. => ⟨0xb6, .reg, .fixed 0, .free, .free, none⟩
  | .jle32X .. => ⟨0xbe, .reg, .reg, .free, .fixed 0, none⟩
  | .jslt64K .. => ⟨0xc5, .reg, .fixed 0, .free, .free, none⟩
  | .jslt64X .. => ⟨0xcd, .reg, .reg, .free, .fixed 0, none⟩
  | .jslt32K .. => ⟨0xc6, .reg, .fixed 0, .free, .free, none⟩
  | .jslt32X .. => ⟨0xce, .reg, .reg, .free, .fixed 0, none⟩
  | .jsle64K .. => ⟨0xd5, .reg, .fixed 0, .free, .free, none⟩
  | .jsle64X .. => ⟨0xdd, .reg, .reg, .free, .fixed 0, none⟩
  | .jsle32K .. => ⟨0xd6, .reg, .fixed 0, .free, .free, none⟩
  | .jsle32X .. => ⟨0xde, .reg, .reg, .free, .fixed 0, none⟩
  | .callHelper .. => ⟨0x85, .fixed 0, .fixed 0, .fixed 0, .free, none⟩
  | .callLocal .. => ⟨0x85, .fixed 0, .fixed 1, .fixed 0, .free, none⟩
  | .callBtf .. => ⟨0x85, .fixed 0, .fixed 2, .fixed 0, .free, none⟩
  | .exit => ⟨0x95, .fixed 0, .fixed 0, .fixed 0, .fixed 0, none⟩
  | .ldxw .. => ⟨0x61, .reg, .reg, .free, .fixed 0, none⟩
  | .ldxh .. => ⟨0x69, .reg, .reg, .free, .fixed 0, none⟩
  | .ldxb .. => ⟨0x71, .reg, .reg, .free, .fixed 0, none⟩
  | .ldxdw .. => ⟨0x79, .reg, .reg, .free, .fixed 0, none⟩
  | .ldxsw .. => ⟨0x81, .reg, .reg, .free, .fixed 0, none⟩
  | .ldxsh .. => ⟨0x89, .reg, .reg, .free, .fixed 0, none⟩
  | .ldxsb .. => ⟨0x91, .reg, .reg, .free, .fixed 0, none⟩
  | .stw .. => ⟨0x62, .reg, .fixed 0, .free, .free, none⟩
  | .sth .. => ⟨0x6a, .reg, .fixed 0, .free, .free, none⟩
  | .stb .. => ⟨0x72, .reg, .fixed 0, .free, .free, none⟩
  | .stdw .. => ⟨0x7a, .reg, .fixed 0, .free, .free, none⟩
  | .stxw .. => ⟨0x63, .reg, .reg, .free, .fixed 0, none⟩
  | .stxh .. => ⟨0x6b, .reg, .reg, .free, .fixed 0, none⟩
  | .stxb .. => ⟨0x73, .reg, .reg, .free, .fixed 0, none⟩
  | .stxdw .. => ⟨0x7b, .reg, .reg, .free, .fixed 0, none⟩
  | .aadd32 .. => ⟨0xc3, .reg, .reg, .free, .fixed 0, none⟩
  | .aadd32Fetch .. => ⟨0xc3, .reg, .reg, .free, .fixed 1, none⟩
  | .aor32 .. => ⟨0xc3, .reg, .reg, .free, .fixed 64, none⟩
  | .aor32Fetch .. => ⟨0xc3, .reg, .reg, .free, .fixed 65, none⟩
  | .aand32 .. => ⟨0xc3, .reg, .reg, .free, .fixed 80, none⟩
  | .aand32Fetch .. => ⟨0xc3, .reg, .reg, .free, .fixed 81, none⟩
  | .axor32 .. => ⟨0xc3, .reg, .reg, .free, .fixed 160, none⟩
  | .axor32Fetch .. => ⟨0xc3, .reg, .reg, .free, .fixed 161, none⟩
  | .axchg32 .. => ⟨0xc3, .reg, .reg, .free, .fixed 225, none⟩
  | .acmpxchg32 .. => ⟨0xc3, .reg, .reg, .free, .fixed 241, none⟩
  | .aadd64 .. => ⟨0xdb, .reg, .reg, .free, .fixed 0, none⟩
  | .aadd64Fetch .. => ⟨0xdb, .reg, .reg, .free, .fixed 1, none⟩
  | .aor64 .. => ⟨0xdb, .reg, .reg, .free, .fixed 64, none⟩
  | .aor64Fetch .. => ⟨0xdb, .reg, .reg, .free, .fixed 65, none⟩
  | .aand64 .. => ⟨0xdb, .reg, .reg, .free, .fixed 80, none⟩
  | .aand64Fetch .. => ⟨0xdb, .reg, .reg, .free, .fixed 81, none⟩
  | .axor64 .. => ⟨0xdb, .reg, .reg, .free, .fixed 160, none⟩
  | .axor64Fetch .. => ⟨0xdb, .reg, .reg, .free, .fixed 161, none⟩
  | .axchg64 .. => ⟨0xdb, .reg, .reg, .free, .fixed 225, none⟩
  | .acmpxchg64 .. => ⟨0xdb, .reg, .reg, .free, .fixed 241, none⟩
  | .lddw .. => ⟨0x18, .reg, .fixed 0, .fixed 0, .free, (some (.free))⟩
  | .ldMapFd .. => ⟨0x18, .reg, .fixed 1, .fixed 0, .free, (some (.fixed 0))⟩
  | .ldMapValFd .. => ⟨0x18, .reg, .fixed 2, .fixed 0, .free, (some (.free))⟩
  | .ldVarAddr .. => ⟨0x18, .reg, .fixed 3, .fixed 0, .free, (some (.fixed 0))⟩
  | .ldCodeAddr .. => ⟨0x18, .reg, .fixed 4, .fixed 0, .free, (some (.fixed 0))⟩
  | .ldMapIdx .. => ⟨0x18, .reg, .fixed 5, .fixed 0, .free, (some (.fixed 0))⟩
  | .ldMapValIdx .. => ⟨0x18, .reg, .fixed 6, .fixed 0, .free, (some (.free))⟩
  | .ldabsw .. => ⟨0x20, .fixed 0, .fixed 0, .fixed 0, .free, none⟩
  | .ldabsh .. => ⟨0x28, .fixed 0, .fixed 0, .fixed 0, .free, none⟩
  | .ldabsb .. => ⟨0x30, .fixed 0, .fixed 0, .fixed 0, .free, none⟩
  | .ldindw .. => ⟨0x40, .fixed 0, .reg, .fixed 0, .free, none⟩
  | .ldindh .. => ⟨0x48, .fixed 0, .reg, .fixed 0, .free, none⟩
  | .ldindb .. => ⟨0x50, .fixed 0, .reg, .fixed 0, .free, none⟩

/-- The statement of the family. -/
def Statement (i : Instr) : Prop := fits (rowOf i) i

theorem toField_le (r : Reg) : r.toField.toNat ≤ 10 := by cases r <;> decide

theorem add32K (dst : Reg) (imm : Word32) : Statement (.add32K dst imm) :=
  ⟨rfl, toField_le dst, rfl, rfl, trivial, trivial⟩
theorem add32X (dst : Reg) (src : Reg) : Statement (.add32X dst src) :=
  ⟨rfl, toField_le dst, toField_le src, rfl, rfl, trivial⟩
theorem add64K (dst : Reg) (imm : Word32) : Statement (.add64K dst imm) :=
  ⟨rfl, toField_le dst, rfl, rfl, trivial, trivial⟩
theorem add64X (dst : Reg) (src : Reg) : Statement (.add64X dst src) :=
  ⟨rfl, toField_le dst, toField_le src, rfl, rfl, trivial⟩
theorem sub32K (dst : Reg) (imm : Word32) : Statement (.sub32K dst imm) :=
  ⟨rfl, toField_le dst, rfl, rfl, trivial, trivial⟩
theorem sub32X (dst : Reg) (src : Reg) : Statement (.sub32X dst src) :=
  ⟨rfl, toField_le dst, toField_le src, rfl, rfl, trivial⟩
theorem sub64K (dst : Reg) (imm : Word32) : Statement (.sub64K dst imm) :=
  ⟨rfl, toField_le dst, rfl, rfl, trivial, trivial⟩
theorem sub64X (dst : Reg) (src : Reg) : Statement (.sub64X dst src) :=
  ⟨rfl, toField_le dst, toField_le src, rfl, rfl, trivial⟩
theorem mul32K (dst : Reg) (imm : Word32) : Statement (.mul32K dst imm) :=
  ⟨rfl, toField_le dst, rfl, rfl, trivial, trivial⟩
theorem mul32X (dst : Reg) (src : Reg) : Statement (.mul32X dst src) :=
  ⟨rfl, toField_le dst, toField_le src, rfl, rfl, trivial⟩
theorem mul64K (dst : Reg) (imm : Word32) : Statement (.mul64K dst imm) :=
  ⟨rfl, toField_le dst, rfl, rfl, trivial, trivial⟩
theorem mul64X (dst : Reg) (src : Reg) : Statement (.mul64X dst src) :=
  ⟨rfl, toField_le dst, toField_le src, rfl, rfl, trivial⟩
theorem div32K (dst : Reg) (imm : Word32) : Statement (.div32K dst imm) :=
  ⟨rfl, toField_le dst, rfl, rfl, trivial, trivial⟩
theorem div32X (dst : Reg) (src : Reg) : Statement (.div32X dst src) :=
  ⟨rfl, toField_le dst, toField_le src, rfl, rfl, trivial⟩
theorem div64K (dst : Reg) (imm : Word32) : Statement (.div64K dst imm) :=
  ⟨rfl, toField_le dst, rfl, rfl, trivial, trivial⟩
theorem div64X (dst : Reg) (src : Reg) : Statement (.div64X dst src) :=
  ⟨rfl, toField_le dst, toField_le src, rfl, rfl, trivial⟩
theorem sdiv32K (dst : Reg) (imm : Word32) : Statement (.sdiv32K dst imm) :=
  ⟨rfl, toField_le dst, rfl, rfl, trivial, trivial⟩
theorem sdiv32X (dst : Reg) (src : Reg) : Statement (.sdiv32X dst src) :=
  ⟨rfl, toField_le dst, toField_le src, rfl, rfl, trivial⟩
theorem sdiv64K (dst : Reg) (imm : Word32) : Statement (.sdiv64K dst imm) :=
  ⟨rfl, toField_le dst, rfl, rfl, trivial, trivial⟩
theorem sdiv64X (dst : Reg) (src : Reg) : Statement (.sdiv64X dst src) :=
  ⟨rfl, toField_le dst, toField_le src, rfl, rfl, trivial⟩
theorem or32K (dst : Reg) (imm : Word32) : Statement (.or32K dst imm) :=
  ⟨rfl, toField_le dst, rfl, rfl, trivial, trivial⟩
theorem or32X (dst : Reg) (src : Reg) : Statement (.or32X dst src) :=
  ⟨rfl, toField_le dst, toField_le src, rfl, rfl, trivial⟩
theorem or64K (dst : Reg) (imm : Word32) : Statement (.or64K dst imm) :=
  ⟨rfl, toField_le dst, rfl, rfl, trivial, trivial⟩
theorem or64X (dst : Reg) (src : Reg) : Statement (.or64X dst src) :=
  ⟨rfl, toField_le dst, toField_le src, rfl, rfl, trivial⟩
theorem and32K (dst : Reg) (imm : Word32) : Statement (.and32K dst imm) :=
  ⟨rfl, toField_le dst, rfl, rfl, trivial, trivial⟩
theorem and32X (dst : Reg) (src : Reg) : Statement (.and32X dst src) :=
  ⟨rfl, toField_le dst, toField_le src, rfl, rfl, trivial⟩
theorem and64K (dst : Reg) (imm : Word32) : Statement (.and64K dst imm) :=
  ⟨rfl, toField_le dst, rfl, rfl, trivial, trivial⟩
theorem and64X (dst : Reg) (src : Reg) : Statement (.and64X dst src) :=
  ⟨rfl, toField_le dst, toField_le src, rfl, rfl, trivial⟩
theorem lsh32K (dst : Reg) (imm : Word32) : Statement (.lsh32K dst imm) :=
  ⟨rfl, toField_le dst, rfl, rfl, trivial, trivial⟩
theorem lsh32X (dst : Reg) (src : Reg) : Statement (.lsh32X dst src) :=
  ⟨rfl, toField_le dst, toField_le src, rfl, rfl, trivial⟩
theorem lsh64K (dst : Reg) (imm : Word32) : Statement (.lsh64K dst imm) :=
  ⟨rfl, toField_le dst, rfl, rfl, trivial, trivial⟩
theorem lsh64X (dst : Reg) (src : Reg) : Statement (.lsh64X dst src) :=
  ⟨rfl, toField_le dst, toField_le src, rfl, rfl, trivial⟩
theorem rsh32K (dst : Reg) (imm : Word32) : Statement (.rsh32K dst imm) :=
  ⟨rfl, toField_le dst, rfl, rfl, trivial, trivial⟩
theorem rsh32X (dst : Reg) (src : Reg) : Statement (.rsh32X dst src) :=
  ⟨rfl, toField_le dst, toField_le src, rfl, rfl, trivial⟩
theorem rsh64K (dst : Reg) (imm : Word32) : Statement (.rsh64K dst imm) :=
  ⟨rfl, toField_le dst, rfl, rfl, trivial, trivial⟩
theorem rsh64X (dst : Reg) (src : Reg) : Statement (.rsh64X dst src) :=
  ⟨rfl, toField_le dst, toField_le src, rfl, rfl, trivial⟩
theorem neg32 (dst : Reg) : Statement (.neg32 dst) :=
  ⟨rfl, toField_le dst, rfl, rfl, rfl, trivial⟩
theorem neg64 (dst : Reg) : Statement (.neg64 dst) :=
  ⟨rfl, toField_le dst, rfl, rfl, rfl, trivial⟩
theorem mod32K (dst : Reg) (imm : Word32) : Statement (.mod32K dst imm) :=
  ⟨rfl, toField_le dst, rfl, rfl, trivial, trivial⟩
theorem mod32X (dst : Reg) (src : Reg) : Statement (.mod32X dst src) :=
  ⟨rfl, toField_le dst, toField_le src, rfl, rfl, trivial⟩
theorem mod64K (dst : Reg) (imm : Word32) : Statement (.mod64K dst imm) :=
  ⟨rfl, toField_le dst, rfl, rfl, trivial, trivial⟩
theorem mod64X (dst : Reg) (src : Reg) : Statement (.mod64X dst src) :=
  ⟨rfl, toField_le dst, toField_le src, rfl, rfl, trivial⟩
theorem smod32K (dst : Reg) (imm : Word32) : Statement (.smod32K dst imm) :=
  ⟨rfl, toField_le dst, rfl, rfl, trivial, trivial⟩
theorem smod32X (dst : Reg) (src : Reg) : Statement (.smod32X dst src) :=
  ⟨rfl, toField_le dst, toField_le src, rfl, rfl, trivial⟩
theorem smod64K (dst : Reg) (imm : Word32) : Statement (.smod64K dst imm) :=
  ⟨rfl, toField_le dst, rfl, rfl, trivial, trivial⟩
theorem smod64X (dst : Reg) (src : Reg) : Statement (.smod64X dst src) :=
  ⟨rfl, toField_le dst, toField_le src, rfl, rfl, trivial⟩
theorem xor32K (dst : Reg) (imm : Word32) : Statement (.xor32K dst imm) :=
  ⟨rfl, toField_le dst, rfl, rfl, trivial, trivial⟩
theorem xor32X (dst : Reg) (src : Reg) : Statement (.xor32X dst src) :=
  ⟨rfl, toField_le dst, toField_le src, rfl, rfl, trivial⟩
theorem xor64K (dst : Reg) (imm : Word32) : Statement (.xor64K dst imm) :=
  ⟨rfl, toField_le dst, rfl, rfl, trivial, trivial⟩
theorem xor64X (dst : Reg) (src : Reg) : Statement (.xor64X dst src) :=
  ⟨rfl, toField_le dst, toField_le src, rfl, rfl, trivial⟩
theorem mov32K (dst : Reg) (imm : Word32) : Statement (.mov32K dst imm) :=
  ⟨rfl, toField_le dst, rfl, rfl, trivial, trivial⟩
theorem mov32X (dst : Reg) (src : Reg) : Statement (.mov32X dst src) :=
  ⟨rfl, toField_le dst, toField_le src, rfl, rfl, trivial⟩
theorem mov64K (dst : Reg) (imm : Word32) : Statement (.mov64K dst imm) :=
  ⟨rfl, toField_le dst, rfl, rfl, trivial, trivial⟩
theorem mov64X (dst : Reg) (src : Reg) : Statement (.mov64X dst src) :=
  ⟨rfl, toField_le dst, toField_le src, rfl, rfl, trivial⟩
theorem movsx32From8 (dst : Reg) (src : Reg) : Statement (.movsx32From8 dst src) :=
  ⟨rfl, toField_le dst, toField_le src, rfl, rfl, trivial⟩
theorem movsx32From16 (dst : Reg) (src : Reg) : Statement (.movsx32From16 dst src) :=
  ⟨rfl, toField_le dst, toField_le src, rfl, rfl, trivial⟩
theorem movsx64From8 (dst : Reg) (src : Reg) : Statement (.movsx64From8 dst src) :=
  ⟨rfl, toField_le dst, toField_le src, rfl, rfl, trivial⟩
theorem movsx64From16 (dst : Reg) (src : Reg) : Statement (.movsx64From16 dst src) :=
  ⟨rfl, toField_le dst, toField_le src, rfl, rfl, trivial⟩
theorem movsx64From32 (dst : Reg) (src : Reg) : Statement (.movsx64From32 dst src) :=
  ⟨rfl, toField_le dst, toField_le src, rfl, rfl, trivial⟩
theorem arsh32K (dst : Reg) (imm : Word32) : Statement (.arsh32K dst imm) :=
  ⟨rfl, toField_le dst, rfl, rfl, trivial, trivial⟩
theorem arsh32X (dst : Reg) (src : Reg) : Statement (.arsh32X dst src) :=
  ⟨rfl, toField_le dst, toField_le src, rfl, rfl, trivial⟩
theorem arsh64K (dst : Reg) (imm : Word32) : Statement (.arsh64K dst imm) :=
  ⟨rfl, toField_le dst, rfl, rfl, trivial, trivial⟩
theorem arsh64X (dst : Reg) (src : Reg) : Statement (.arsh64X dst src) :=
  ⟨rfl, toField_le dst, toField_le src, rfl, rfl, trivial⟩
theorem le16 (dst : Reg) : Statement (.le16 dst) :=
  ⟨rfl, toField_le dst, rfl, rfl, rfl, trivial⟩
theorem le32 (dst : Reg) : Statement (.le32 dst) :=
  ⟨rfl, toField_le dst, rfl, rfl, rfl, trivial⟩
theorem le64 (dst : Reg) : Statement (.le64 dst) :=
  ⟨rfl, toField_le dst, rfl, rfl, rfl, trivial⟩
theorem be16 (dst : Reg) : Statement (.be16 dst) :=
  ⟨rfl, toField_le dst, rfl, rfl, rfl, trivial⟩
theorem be32 (dst : Reg) : Statement (.be32 dst) :=
  ⟨rfl, toField_le dst, rfl, rfl, rfl, trivial⟩
theorem be64 (dst : Reg) : Statement (.be64 dst) :=
  ⟨rfl, toField_le dst, rfl, rfl, rfl, trivial⟩
theorem bswap16 (dst : Reg) : Statement (.bswap16 dst) :=
  ⟨rfl, toField_le dst, rfl, rfl, rfl, trivial⟩
theorem bswap32 (dst : Reg) : Statement (.bswap32 dst) :=
  ⟨rfl, toField_le dst, rfl, rfl, rfl, trivial⟩
theorem bswap64 (dst : Reg) : Statement (.bswap64 dst) :=
  ⟨rfl, toField_le dst, rfl, rfl, rfl, trivial⟩
theorem ja (off : Offset) : Statement (.ja off) :=
  ⟨rfl, rfl, rfl, trivial, rfl, trivial⟩
theorem ja32 (imm : Word32) : Statement (.ja32 imm) :=
  ⟨rfl, rfl, rfl, rfl, trivial, trivial⟩
theorem jeq64K (dst : Reg) (imm : Word32) (off : Offset) : Statement (.jeq64K dst imm off) :=
  ⟨rfl, toField_le dst, rfl, trivial, trivial, trivial⟩
theorem jeq64X (dst : Reg) (src : Reg) (off : Offset) : Statement (.jeq64X dst src off) :=
  ⟨rfl, toField_le dst, toField_le src, trivial, rfl, trivial⟩
theorem jeq32K (dst : Reg) (imm : Word32) (off : Offset) : Statement (.jeq32K dst imm off) :=
  ⟨rfl, toField_le dst, rfl, trivial, trivial, trivial⟩
theorem jeq32X (dst : Reg) (src : Reg) (off : Offset) : Statement (.jeq32X dst src off) :=
  ⟨rfl, toField_le dst, toField_le src, trivial, rfl, trivial⟩
theorem jgt64K (dst : Reg) (imm : Word32) (off : Offset) : Statement (.jgt64K dst imm off) :=
  ⟨rfl, toField_le dst, rfl, trivial, trivial, trivial⟩
theorem jgt64X (dst : Reg) (src : Reg) (off : Offset) : Statement (.jgt64X dst src off) :=
  ⟨rfl, toField_le dst, toField_le src, trivial, rfl, trivial⟩
theorem jgt32K (dst : Reg) (imm : Word32) (off : Offset) : Statement (.jgt32K dst imm off) :=
  ⟨rfl, toField_le dst, rfl, trivial, trivial, trivial⟩
theorem jgt32X (dst : Reg) (src : Reg) (off : Offset) : Statement (.jgt32X dst src off) :=
  ⟨rfl, toField_le dst, toField_le src, trivial, rfl, trivial⟩
theorem jge64K (dst : Reg) (imm : Word32) (off : Offset) : Statement (.jge64K dst imm off) :=
  ⟨rfl, toField_le dst, rfl, trivial, trivial, trivial⟩
theorem jge64X (dst : Reg) (src : Reg) (off : Offset) : Statement (.jge64X dst src off) :=
  ⟨rfl, toField_le dst, toField_le src, trivial, rfl, trivial⟩
theorem jge32K (dst : Reg) (imm : Word32) (off : Offset) : Statement (.jge32K dst imm off) :=
  ⟨rfl, toField_le dst, rfl, trivial, trivial, trivial⟩
theorem jge32X (dst : Reg) (src : Reg) (off : Offset) : Statement (.jge32X dst src off) :=
  ⟨rfl, toField_le dst, toField_le src, trivial, rfl, trivial⟩
theorem jset64K (dst : Reg) (imm : Word32) (off : Offset) : Statement (.jset64K dst imm off) :=
  ⟨rfl, toField_le dst, rfl, trivial, trivial, trivial⟩
theorem jset64X (dst : Reg) (src : Reg) (off : Offset) : Statement (.jset64X dst src off) :=
  ⟨rfl, toField_le dst, toField_le src, trivial, rfl, trivial⟩
theorem jset32K (dst : Reg) (imm : Word32) (off : Offset) : Statement (.jset32K dst imm off) :=
  ⟨rfl, toField_le dst, rfl, trivial, trivial, trivial⟩
theorem jset32X (dst : Reg) (src : Reg) (off : Offset) : Statement (.jset32X dst src off) :=
  ⟨rfl, toField_le dst, toField_le src, trivial, rfl, trivial⟩
theorem jne64K (dst : Reg) (imm : Word32) (off : Offset) : Statement (.jne64K dst imm off) :=
  ⟨rfl, toField_le dst, rfl, trivial, trivial, trivial⟩
theorem jne64X (dst : Reg) (src : Reg) (off : Offset) : Statement (.jne64X dst src off) :=
  ⟨rfl, toField_le dst, toField_le src, trivial, rfl, trivial⟩
theorem jne32K (dst : Reg) (imm : Word32) (off : Offset) : Statement (.jne32K dst imm off) :=
  ⟨rfl, toField_le dst, rfl, trivial, trivial, trivial⟩
theorem jne32X (dst : Reg) (src : Reg) (off : Offset) : Statement (.jne32X dst src off) :=
  ⟨rfl, toField_le dst, toField_le src, trivial, rfl, trivial⟩
theorem jsgt64K (dst : Reg) (imm : Word32) (off : Offset) : Statement (.jsgt64K dst imm off) :=
  ⟨rfl, toField_le dst, rfl, trivial, trivial, trivial⟩
theorem jsgt64X (dst : Reg) (src : Reg) (off : Offset) : Statement (.jsgt64X dst src off) :=
  ⟨rfl, toField_le dst, toField_le src, trivial, rfl, trivial⟩
theorem jsgt32K (dst : Reg) (imm : Word32) (off : Offset) : Statement (.jsgt32K dst imm off) :=
  ⟨rfl, toField_le dst, rfl, trivial, trivial, trivial⟩
theorem jsgt32X (dst : Reg) (src : Reg) (off : Offset) : Statement (.jsgt32X dst src off) :=
  ⟨rfl, toField_le dst, toField_le src, trivial, rfl, trivial⟩
theorem jsge64K (dst : Reg) (imm : Word32) (off : Offset) : Statement (.jsge64K dst imm off) :=
  ⟨rfl, toField_le dst, rfl, trivial, trivial, trivial⟩
theorem jsge64X (dst : Reg) (src : Reg) (off : Offset) : Statement (.jsge64X dst src off) :=
  ⟨rfl, toField_le dst, toField_le src, trivial, rfl, trivial⟩
theorem jsge32K (dst : Reg) (imm : Word32) (off : Offset) : Statement (.jsge32K dst imm off) :=
  ⟨rfl, toField_le dst, rfl, trivial, trivial, trivial⟩
theorem jsge32X (dst : Reg) (src : Reg) (off : Offset) : Statement (.jsge32X dst src off) :=
  ⟨rfl, toField_le dst, toField_le src, trivial, rfl, trivial⟩
theorem jlt64K (dst : Reg) (imm : Word32) (off : Offset) : Statement (.jlt64K dst imm off) :=
  ⟨rfl, toField_le dst, rfl, trivial, trivial, trivial⟩
theorem jlt64X (dst : Reg) (src : Reg) (off : Offset) : Statement (.jlt64X dst src off) :=
  ⟨rfl, toField_le dst, toField_le src, trivial, rfl, trivial⟩
theorem jlt32K (dst : Reg) (imm : Word32) (off : Offset) : Statement (.jlt32K dst imm off) :=
  ⟨rfl, toField_le dst, rfl, trivial, trivial, trivial⟩
theorem jlt32X (dst : Reg) (src : Reg) (off : Offset) : Statement (.jlt32X dst src off) :=
  ⟨rfl, toField_le dst, toField_le src, trivial, rfl, trivial⟩
theorem jle64K (dst : Reg) (imm : Word32) (off : Offset) : Statement (.jle64K dst imm off) :=
  ⟨rfl, toField_le dst, rfl, trivial, trivial, trivial⟩
theorem jle64X (dst : Reg) (src : Reg) (off : Offset) : Statement (.jle64X dst src off) :=
  ⟨rfl, toField_le dst, toField_le src, trivial, rfl, trivial⟩
theorem jle32K (dst : Reg) (imm : Word32) (off : Offset) : Statement (.jle32K dst imm off) :=
  ⟨rfl, toField_le dst, rfl, trivial, trivial, trivial⟩
theorem jle32X (dst : Reg) (src : Reg) (off : Offset) : Statement (.jle32X dst src off) :=
  ⟨rfl, toField_le dst, toField_le src, trivial, rfl, trivial⟩
theorem jslt64K (dst : Reg) (imm : Word32) (off : Offset) : Statement (.jslt64K dst imm off) :=
  ⟨rfl, toField_le dst, rfl, trivial, trivial, trivial⟩
theorem jslt64X (dst : Reg) (src : Reg) (off : Offset) : Statement (.jslt64X dst src off) :=
  ⟨rfl, toField_le dst, toField_le src, trivial, rfl, trivial⟩
theorem jslt32K (dst : Reg) (imm : Word32) (off : Offset) : Statement (.jslt32K dst imm off) :=
  ⟨rfl, toField_le dst, rfl, trivial, trivial, trivial⟩
theorem jslt32X (dst : Reg) (src : Reg) (off : Offset) : Statement (.jslt32X dst src off) :=
  ⟨rfl, toField_le dst, toField_le src, trivial, rfl, trivial⟩
theorem jsle64K (dst : Reg) (imm : Word32) (off : Offset) : Statement (.jsle64K dst imm off) :=
  ⟨rfl, toField_le dst, rfl, trivial, trivial, trivial⟩
theorem jsle64X (dst : Reg) (src : Reg) (off : Offset) : Statement (.jsle64X dst src off) :=
  ⟨rfl, toField_le dst, toField_le src, trivial, rfl, trivial⟩
theorem jsle32K (dst : Reg) (imm : Word32) (off : Offset) : Statement (.jsle32K dst imm off) :=
  ⟨rfl, toField_le dst, rfl, trivial, trivial, trivial⟩
theorem jsle32X (dst : Reg) (src : Reg) (off : Offset) : Statement (.jsle32X dst src off) :=
  ⟨rfl, toField_le dst, toField_le src, trivial, rfl, trivial⟩
theorem callHelper (imm : Word32) : Statement (.callHelper imm) :=
  ⟨rfl, rfl, rfl, rfl, trivial, trivial⟩
theorem callLocal (imm : Word32) : Statement (.callLocal imm) :=
  ⟨rfl, rfl, rfl, rfl, trivial, trivial⟩
theorem callBtf (imm : Word32) : Statement (.callBtf imm) :=
  ⟨rfl, rfl, rfl, rfl, trivial, trivial⟩
theorem exit : Statement (.exit) :=
  ⟨rfl, rfl, rfl, rfl, rfl, trivial⟩
theorem ldxw (dst : Reg) (src : Reg) (off : Offset) : Statement (.ldxw dst src off) :=
  ⟨rfl, toField_le dst, toField_le src, trivial, rfl, trivial⟩
theorem ldxh (dst : Reg) (src : Reg) (off : Offset) : Statement (.ldxh dst src off) :=
  ⟨rfl, toField_le dst, toField_le src, trivial, rfl, trivial⟩
theorem ldxb (dst : Reg) (src : Reg) (off : Offset) : Statement (.ldxb dst src off) :=
  ⟨rfl, toField_le dst, toField_le src, trivial, rfl, trivial⟩
theorem ldxdw (dst : Reg) (src : Reg) (off : Offset) : Statement (.ldxdw dst src off) :=
  ⟨rfl, toField_le dst, toField_le src, trivial, rfl, trivial⟩
theorem ldxsw (dst : Reg) (src : Reg) (off : Offset) : Statement (.ldxsw dst src off) :=
  ⟨rfl, toField_le dst, toField_le src, trivial, rfl, trivial⟩
theorem ldxsh (dst : Reg) (src : Reg) (off : Offset) : Statement (.ldxsh dst src off) :=
  ⟨rfl, toField_le dst, toField_le src, trivial, rfl, trivial⟩
theorem ldxsb (dst : Reg) (src : Reg) (off : Offset) : Statement (.ldxsb dst src off) :=
  ⟨rfl, toField_le dst, toField_le src, trivial, rfl, trivial⟩
theorem stw (dst : Reg) (off : Offset) (imm : Word32) : Statement (.stw dst off imm) :=
  ⟨rfl, toField_le dst, rfl, trivial, trivial, trivial⟩
theorem sth (dst : Reg) (off : Offset) (imm : Word32) : Statement (.sth dst off imm) :=
  ⟨rfl, toField_le dst, rfl, trivial, trivial, trivial⟩
theorem stb (dst : Reg) (off : Offset) (imm : Word32) : Statement (.stb dst off imm) :=
  ⟨rfl, toField_le dst, rfl, trivial, trivial, trivial⟩
theorem stdw (dst : Reg) (off : Offset) (imm : Word32) : Statement (.stdw dst off imm) :=
  ⟨rfl, toField_le dst, rfl, trivial, trivial, trivial⟩
theorem stxw (dst : Reg) (src : Reg) (off : Offset) : Statement (.stxw dst src off) :=
  ⟨rfl, toField_le dst, toField_le src, trivial, rfl, trivial⟩
theorem stxh (dst : Reg) (src : Reg) (off : Offset) : Statement (.stxh dst src off) :=
  ⟨rfl, toField_le dst, toField_le src, trivial, rfl, trivial⟩
theorem stxb (dst : Reg) (src : Reg) (off : Offset) : Statement (.stxb dst src off) :=
  ⟨rfl, toField_le dst, toField_le src, trivial, rfl, trivial⟩
theorem stxdw (dst : Reg) (src : Reg) (off : Offset) : Statement (.stxdw dst src off) :=
  ⟨rfl, toField_le dst, toField_le src, trivial, rfl, trivial⟩
theorem aadd32 (dst : Reg) (src : Reg) (off : Offset) : Statement (.aadd32 dst src off) :=
  ⟨rfl, toField_le dst, toField_le src, trivial, rfl, trivial⟩
theorem aadd32Fetch (dst : Reg) (src : Reg) (off : Offset) : Statement (.aadd32Fetch dst src off) :=
  ⟨rfl, toField_le dst, toField_le src, trivial, rfl, trivial⟩
theorem aor32 (dst : Reg) (src : Reg) (off : Offset) : Statement (.aor32 dst src off) :=
  ⟨rfl, toField_le dst, toField_le src, trivial, rfl, trivial⟩
theorem aor32Fetch (dst : Reg) (src : Reg) (off : Offset) : Statement (.aor32Fetch dst src off) :=
  ⟨rfl, toField_le dst, toField_le src, trivial, rfl, trivial⟩
theorem aand32 (dst : Reg) (src : Reg) (off : Offset) : Statement (.aand32 dst src off) :=
  ⟨rfl, toField_le dst, toField_le src, trivial, rfl, trivial⟩
theorem aand32Fetch (dst : Reg) (src : Reg) (off : Offset) : Statement (.aand32Fetch dst src off) :=
  ⟨rfl, toField_le dst, toField_le src, trivial, rfl, trivial⟩
theorem axor32 (dst : Reg) (src : Reg) (off : Offset) : Statement (.axor32 dst src off) :=
  ⟨rfl, toField_le dst, toField_le src, trivial, rfl, trivial⟩
theorem axor32Fetch (dst : Reg) (src : Reg) (off : Offset) : Statement (.axor32Fetch dst src off) :=
  ⟨rfl, toField_le dst, toField_le src, trivial, rfl, trivial⟩
theorem axchg32 (dst : Reg) (src : Reg) (off : Offset) : Statement (.axchg32 dst src off) :=
  ⟨rfl, toField_le dst, toField_le src, trivial, rfl, trivial⟩
theorem acmpxchg32 (dst : Reg) (src : Reg) (off : Offset) : Statement (.acmpxchg32 dst src off) :=
  ⟨rfl, toField_le dst, toField_le src, trivial, rfl, trivial⟩
theorem aadd64 (dst : Reg) (src : Reg) (off : Offset) : Statement (.aadd64 dst src off) :=
  ⟨rfl, toField_le dst, toField_le src, trivial, rfl, trivial⟩
theorem aadd64Fetch (dst : Reg) (src : Reg) (off : Offset) : Statement (.aadd64Fetch dst src off) :=
  ⟨rfl, toField_le dst, toField_le src, trivial, rfl, trivial⟩
theorem aor64 (dst : Reg) (src : Reg) (off : Offset) : Statement (.aor64 dst src off) :=
  ⟨rfl, toField_le dst, toField_le src, trivial, rfl, trivial⟩
theorem aor64Fetch (dst : Reg) (src : Reg) (off : Offset) : Statement (.aor64Fetch dst src off) :=
  ⟨rfl, toField_le dst, toField_le src, trivial, rfl, trivial⟩
theorem aand64 (dst : Reg) (src : Reg) (off : Offset) : Statement (.aand64 dst src off) :=
  ⟨rfl, toField_le dst, toField_le src, trivial, rfl, trivial⟩
theorem aand64Fetch (dst : Reg) (src : Reg) (off : Offset) : Statement (.aand64Fetch dst src off) :=
  ⟨rfl, toField_le dst, toField_le src, trivial, rfl, trivial⟩
theorem axor64 (dst : Reg) (src : Reg) (off : Offset) : Statement (.axor64 dst src off) :=
  ⟨rfl, toField_le dst, toField_le src, trivial, rfl, trivial⟩
theorem axor64Fetch (dst : Reg) (src : Reg) (off : Offset) : Statement (.axor64Fetch dst src off) :=
  ⟨rfl, toField_le dst, toField_le src, trivial, rfl, trivial⟩
theorem axchg64 (dst : Reg) (src : Reg) (off : Offset) : Statement (.axchg64 dst src off) :=
  ⟨rfl, toField_le dst, toField_le src, trivial, rfl, trivial⟩
theorem acmpxchg64 (dst : Reg) (src : Reg) (off : Offset) : Statement (.acmpxchg64 dst src off) :=
  ⟨rfl, toField_le dst, toField_le src, trivial, rfl, trivial⟩
theorem lddw (dst : Reg) (imm : Word32) (nextImm : Word32) : Statement (.lddw dst imm nextImm) :=
  ⟨rfl, toField_le dst, rfl, rfl, trivial, trivial⟩
theorem ldMapFd (dst : Reg) (imm : Word32) : Statement (.ldMapFd dst imm) :=
  ⟨rfl, toField_le dst, rfl, rfl, trivial, rfl⟩
theorem ldMapValFd (dst : Reg) (imm : Word32) (nextImm : Word32) : Statement (.ldMapValFd dst imm nextImm) :=
  ⟨rfl, toField_le dst, rfl, rfl, trivial, trivial⟩
theorem ldVarAddr (dst : Reg) (imm : Word32) : Statement (.ldVarAddr dst imm) :=
  ⟨rfl, toField_le dst, rfl, rfl, trivial, rfl⟩
theorem ldCodeAddr (dst : Reg) (imm : Word32) : Statement (.ldCodeAddr dst imm) :=
  ⟨rfl, toField_le dst, rfl, rfl, trivial, rfl⟩
theorem ldMapIdx (dst : Reg) (imm : Word32) : Statement (.ldMapIdx dst imm) :=
  ⟨rfl, toField_le dst, rfl, rfl, trivial, rfl⟩
theorem ldMapValIdx (dst : Reg) (imm : Word32) (nextImm : Word32) : Statement (.ldMapValIdx dst imm nextImm) :=
  ⟨rfl, toField_le dst, rfl, rfl, trivial, trivial⟩
theorem ldabsw (imm : Word32) : Statement (.ldabsw imm) :=
  ⟨rfl, rfl, rfl, rfl, trivial, trivial⟩
theorem ldabsh (imm : Word32) : Statement (.ldabsh imm) :=
  ⟨rfl, rfl, rfl, rfl, trivial, trivial⟩
theorem ldabsb (imm : Word32) : Statement (.ldabsb imm) :=
  ⟨rfl, rfl, rfl, rfl, trivial, trivial⟩
theorem ldindw (src : Reg) (imm : Word32) : Statement (.ldindw src imm) :=
  ⟨rfl, rfl, toField_le src, rfl, trivial, trivial⟩
theorem ldindh (src : Reg) (imm : Word32) : Statement (.ldindh src imm) :=
  ⟨rfl, rfl, toField_le src, rfl, trivial, trivial⟩
theorem ldindb (src : Reg) (imm : Word32) : Statement (.ldindb src imm) :=
  ⟨rfl, rfl, toField_le src, rfl, trivial, trivial⟩

end Sys2Proof.Laws.TableRow
end

