-- ==== Sys2Proof/Laws/Step.lean ====
section
/-!
SUPPORT. What a step and a fetch can answer: the inversion lemmas of `step` and `State.fetch`.
-/

namespace Sys2Proof.Machine

/-- A step answers a next state only in a running state: the fault of the fetch, or what the fetched instruction does. -/
theorem step_cases {s t : State} (h : step s = .next t) :
    s.status = .running ∧
      ((∃ c, s.fetch = .error c ∧ t = { s with status := .faulted c s.pc }) ∨
        ∃ i, s.fetch = .ok i ∧ exec i s = .next t) := by
  simp only [step] at h
  split at h
  · rename_i hs
    refine ⟨hs, ?_⟩
    split at h
    · rename_i c hc
      exact .inl ⟨c, hc, by simpa [raise] using h.symm⟩
    · rename_i i hi
      exact .inr ⟨i, hi, h⟩
  · cases h
  · cases h

/-- An instruction that is fetched lies in the program, at no second slot, decodes and is legal. -/
theorem State.fetch_ok {s : State} {i : Instr} (h : s.fetch = .ok i) :
    0 ≤ s.pc ∧ s.pc < s.params.program.length ∧ inSecondSlots false s.params.program s.pc.toNat = false ∧
      decode s.params.hostEndian s.params.strictUnused (s.params.program.drop s.pc.toNat) = .ok i ∧
      legal s.params i = true := by
  simp only [State.fetch] at h
  split at h
  · cases h
  · rename_i hp
    split at h
    · cases h
    · rename_i hw
      split at h
      · cases h
      · rename_i j hj
        split at h
        · rename_i hl
          cases h
          exact ⟨by omega, by omega, by simpa using hw, hj, hl⟩
        · cases h

end Sys2Proof.Machine
end

