-- ==== Sys2Proof/Tests/Slice0.lean ====
section
/-!
SUPPORT. The model's own tests: the well-formedness checks, the decoding of every constructor from words written out
from the spec's encodings, one step of each instruction on the spec's own vectors (`95_test_vectors.md`), and for every
statement with hypotheses a concrete state and operands that meet them.
-/

namespace Sys2Proof.Tests

open Sys2Proof.Machine

/-- The region of the spec's memory vectors: 16 bytes at 0x1000 with the launch bytes 88 77 .. fe ff. -/
def sampleRegion : Region :=
  { base := 0x1000, len := 16, readable := true, writable := true, sharing := .unshared
    init := some [0x88, 0x77, 0x66, 0x55, 0x44, 0x33, 0x22, 0x11,
                  0xf8, 0xf9, 0xfa, 0xfb, 0xfc, 0xfd, 0xfe, 0xff] }

/-- The reset parameters with that region on a host. -/
def sampleParams (e : Endian) : Params := { defaultParams with hostEndian := e, regions := [sampleRegion] }

/-- An entry state with the sample region and the given R1 and R2. -/
def sample (e : Endian) (r1 r2 : Word) : State :=
  State.entry (sampleParams e) { defaultEntryRegs defaultParams with r1 := .written r1, r2 := .written r2 } []

/-- The same with R1 the address of the region, and the given R2 and R0. -/
def sampleR0 (r2 r0 : Word) : State :=
  let s := sample .little 0x1000 r2
  { s with regs := { s.regs with r0 := .written r0 } }

/-- A running state at slot 0 of a program, with small values in the registers. -/
def running (program : List Slot) : State :=
  let s := sample .little 5 3
  { s with params := { s.params with program := program } }

/-- The next state, where there is one. -/
def after : Out → Option State
  | .next t => some t
  | .fault _ => none
  | .refused _ => none

/-! ### Well-formed terms: one ill-formed term for each check -/

/-- A group that is not supported (`30_encoding.md` R77). -/
theorem test_wf_group : wellFormed { defaultParams with groups := { suggestedGroups with divmul64 := false } }
    (.mul64K .r1 3) = false := by decide

/-- A write of R10 under `FP_READONLY` (`30_encoding.md` R86). -/
theorem test_wf_r10 : wellFormed defaultParams (.mov64K .r10 5) = false := by decide

/-- A fetching atomic whose source is R10 (`30_encoding.md` R86). -/
theorem test_wf_fetch_r10 : wellFormed defaultParams (.aadd64Fetch .r1 .r10 0) = false := by decide

/-- The same terms where the parameter allows them. -/
theorem test_wf_allowed :
    wellFormed { defaultParams with fpReadonly := false } (.mov64K .r10 5) = true ∧
    wellFormed defaultParams (.aadd64 .r1 .r10 0) = true ∧ wellFormed defaultParams (.mul64K .r1 3) = true := by
  decide

/-- `atomic64` without `atomic32` is no legal set of groups (`00_scope.md` R3). -/
theorem test_wf_params_groups :
    wellFormedParams { defaultParams with groups := { suggestedGroups with atomic32 := false } } = false ∧
    wellFormedParams { defaultParams with groups := { suggestedGroups with divmul32 := false } } = false ∧
    wellFormedParams { defaultParams with groups := { suggestedGroups with base32 := false } } = false := by
  decide

/-- A region past the end of the address space, a launch image of the wrong length, two regions with a byte in common
(`20_memory.md` R45). -/
theorem test_wf_params_regions :
    wellFormedParams { sampleParams .little with
      regions := [{ sampleRegion with base := 0xfffffffffffffff8 }] } = false ∧
    wellFormedParams { sampleParams .little with regions := [{ sampleRegion with len := 15 }] } = false ∧
    wellFormedParams { sampleParams .little with
      regions := [sampleRegion, { sampleRegion with base := 0x100f }] } = false := by
  decide

/-- The reset parameters and the sample parameters are well formed. -/
theorem test_wf_params : wellFormedParams defaultParams = true ∧ wellFormedParams (sampleParams .big) = true := by
  decide

/-! ### Reset -/

/-- The memory of the reset state is in canonical form, and its pc, depth and status are those of `70_reset_and_hazards.md`
Table R410-T. -/
theorem test_reset : State.reset.mem.wf = true ∧ State.reset.pc = 0 ∧ State.reset.frames = [] ∧
    State.reset.status = .running := by
  decide

/-- A program placed at reset runs: V-IMM64's first `LDDW`, as the first instruction. -/
theorem test_reset_runs : (after (step (State.reset.withFetchWord 128 0x11223344000000005566778800000118))).map
    (fun t => (t.reg .r1, t.pc, t.status)) = some (.written 0x1122334455667788, 2, .running) := by
  decide

/-- An instruction placed after a wide opcode byte is not taken for a second slot. -/
theorem test_place_after_wide :
    inSecondSlots false (placeSlots [0x18] 1 0x95 0) 1 = false := by decide

/-! ### Decoding -/

/-- The source's example (`30_encoding.md` R85; S2): the same instruction from the bytes of either host. -/
theorem test_decode_both_hosts :
    decode .little true [0x1122334400000107] = .ok (.add64K .r1 0x11223344) ∧
    decode .big true [0x4433221100001007] = .ok (.add64K .r1 0x11223344) := by decide

/-- Without `STRICT_UNUSED` a non-zero unused field is ignored, a reserved half is not (`30_encoding.md` R66, R67). -/
theorem test_decode_not_strict :
    decode .little false [0x0000000100002107] = .ok (.add64K .r1 1) ∧
    decode .little false [0x0000000100000118, 0x0000000000000007] = .error .reservedHalfNotZero := by decide

/-- Words written out from the encodings of class ALU arithmetic (`40_alu.md`, `40_alu_2.md`): r1, r2, offset 0x0102, imm 0x11223344. -/
theorem test_decode_alu32_1 :
    ([(64, 0x1122334400000104, .add32K .r1 0x11223344),
      (64, 0x000000000000210c, .add32X .r1 .r2),
      (64, 0x1122334400000114, .sub32K .r1 0x11223344),
      (64, 0x000000000000211c, .sub32X .r1 .r2),
      (64, 0x1122334400000124, .mul32K .r1 0x11223344),
      (64, 0x000000000000212c, .mul32X .r1 .r2),
      (64, 0x1122334400000134, .div32K .r1 0x11223344),
      (64, 0x000000000000213c, .div32X .r1 .r2),
      (64, 0x1122334400010134, .sdiv32K .r1 0x11223344),
      (64, 0x000000000001213c, .sdiv32X .r1 .r2),
      (64, 0x1122334400000144, .or32K .r1 0x11223344),
      (64, 0x000000000000214c, .or32X .r1 .r2),
      (64, 0x1122334400000154, .and32K .r1 0x11223344),
      (64, 0x000000000000215c, .and32X .r1 .r2),
      (64, 0x1122334400000164, .lsh32K .r1 0x11223344),
      (64, 0x000000000000216c, .lsh32X .r1 .r2)] :
      List (Nat × Nat × Instr)).all (fun (n, w, i) => decide (decodeTableWord n w = some i)) = true := by
  decide

/-- Words written out from the encodings of class ALU arithmetic (`40_alu.md`, `40_alu_2.md`): r1, r2, offset 0x0102, imm 0x11223344. -/
theorem test_decode_alu32_2 :
    ([(64, 0x1122334400000174, .rsh32K .r1 0x11223344),
      (64, 0x000000000000217c, .rsh32X .r1 .r2),
      (64, 0x0000000000000184, .neg32 .r1),
      (64, 0x1122334400000194, .mod32K .r1 0x11223344),
      (64, 0x000000000000219c, .mod32X .r1 .r2),
      (64, 0x1122334400010194, .smod32K .r1 0x11223344),
      (64, 0x000000000001219c, .smod32X .r1 .r2),
      (64, 0x11223344000001a4, .xor32K .r1 0x11223344),
      (64, 0x00000000000021ac, .xor32X .r1 .r2),
      (64, 0x11223344000001b4, .mov32K .r1 0x11223344),
      (64, 0x00000000000021bc, .mov32X .r1 .r2),
      (64, 0x00000000000821bc, .movsx32From8 .r1 .r2),
      (64, 0x00000000001021bc, .movsx32From16 .r1 .r2),
      (64, 0x11223344000001c4, .arsh32K .r1 0x11223344),
      (64, 0x00000000000021cc, .arsh32X .r1 .r2)] :
      List (Nat × Nat × Instr)).all (fun (n, w, i) => decide (decodeTableWord n w = some i)) = true := by
  decide

/-- Words written out from the encodings of class ALU64 arithmetic: r1, r2, offset 0x0102, imm 0x11223344. -/
theorem test_decode_alu64_1 :
    ([(64, 0x1122334400000107, .add64K .r1 0x11223344),
      (64, 0x000000000000210f, .add64X .r1 .r2),
      (64, 0x1122334400000117, .sub64K .r1 0x11223344),
      (64, 0x000000000000211f, .sub64X .r1 .r2),
      (64, 0x1122334400000127, .mul64K .r1 0x11223344),
      (64, 0x000000000000212f, .mul64X .r1 .r2),
      (64, 0x1122334400000137, .div64K .r1 0x11223344),
      (64, 0x000000000000213f, .div64X .r1 .r2),
      (64, 0x1122334400010137, .sdiv64K .r1 0x11223344),
      (64, 0x000000000001213f, .sdiv64X .r1 .r2),
      (64, 0x1122334400000147, .or64K .r1 0x11223344),
      (64, 0x000000000000214f, .or64X .r1 .r2),
      (64, 0x1122334400000157, .and64K .r1 0x11223344),
      (64, 0x000000000000215f, .and64X .r1 .r2),
      (64, 0x1122334400000167, .lsh64K .r1 0x11223344),
      (64, 0x000000000000216f, .lsh64X .r1 .r2)] :
      List (Nat × Nat × Instr)).all (fun (n, w, i) => decide (decodeTableWord n w = some i)) = true := by
  decide

/-- Words written out from the encodings of class ALU64 arithmetic: r1, r2, offset 0x0102, imm 0x11223344. -/
theorem test_decode_alu64_2 :
    ([(64, 0x1122334400000177, .rsh64K .r1 0x11223344),
      (64, 0x000000000000217f, .rsh64X .r1 .r2),
      (64, 0x0000000000000187, .neg64 .r1),
      (64, 0x1122334400000197, .mod64K .r1 0x11223344),
      (64, 0x000000000000219f, .mod64X .r1 .r2),
      (64, 0x1122334400010197, .smod64K .r1 0x11223344),
      (64, 0x000000000001219f, .smod64X .r1 .r2),
      (64, 0x11223344000001a7, .xor64K .r1 0x11223344),
      (64, 0x00000000000021af, .xor64X .r1 .r2),
      (64, 0x11223344000001b7, .mov64K .r1 0x11223344),
      (64, 0x00000000000021bf, .mov64X .r1 .r2),
      (64, 0x00000000000821bf, .movsx64From8 .r1 .r2),
      (64, 0x00000000001021bf, .movsx64From16 .r1 .r2),
      (64, 0x00000000002021bf, .movsx64From32 .r1 .r2),
      (64, 0x11223344000001c7, .arsh64K .r1 0x11223344),
      (64, 0x00000000000021cf, .arsh64X .r1 .r2)] :
      List (Nat × Nat × Instr)).all (fun (n, w, i) => decide (decodeTableWord n w = some i)) = true := by
  decide

/-- Words written out from the encodings of byte swaps (`41_byteswap.md`): r1, r2, offset 0x0102, imm 0x11223344. -/
theorem test_decode_byteswap :
    ([(64, 0x00000010000001d4, .le16 .r1),
      (64, 0x00000020000001d4, .le32 .r1),
      (64, 0x00000040000001d4, .le64 .r1),
      (64, 0x00000010000001dc, .be16 .r1),
      (64, 0x00000020000001dc, .be32 .r1),
      (64, 0x00000040000001dc, .be64 .r1),
      (64, 0x00000010000001d7, .bswap16 .r1),
      (64, 0x00000020000001d7, .bswap32 .r1),
      (64, 0x00000040000001d7, .bswap64 .r1)] :
      List (Nat × Nat × Instr)).all (fun (n, w, i) => decide (decodeTableWord n w = some i)) = true := by
  decide

/-- Words written out from the encodings of class JMP (`42_jump.md`): r1, r2, offset 0x0102, imm 0x11223344. -/
theorem test_decode_jmp64_1 :
    ([(64, 0x0000000001020005, .ja 0x102),
      (64, 0x1122334401020115, .jeq64K .r1 0x11223344 0x102),
      (64, 0x000000000102211d, .jeq64X .r1 .r2 0x102),
      (64, 0x1122334401020125, .jgt64K .r1 0x11223344 0x102),
      (64, 0x000000000102212d, .jgt64X .r1 .r2 0x102),
      (64, 0x1122334401020135, .jge64K .r1 0x11223344 0x102),
      (64, 0x000000000102213d, .jge64X .r1 .r2 0x102),
      (64, 0x1122334401020145, .jset64K .r1 0x11223344 0x102),
      (64, 0x000000000102214d, .jset64X .r1 .r2 0x102),
      (64, 0x1122334401020155, .jne64K .r1 0x11223344 0x102),
      (64, 0x000000000102215d, .jne64X .r1 .r2 0x102),
      (64, 0x1122334401020165, .jsgt64K .r1 0x11223344 0x102),
      (64, 0x000000000102216d, .jsgt64X .r1 .r2 0x102),
      (64, 0x1122334401020175, .jsge64K .r1 0x11223344 0x102),
      (64, 0x000000000102217d, .jsge64X .r1 .r2 0x102),
      (64, 0x11223344010201a5, .jlt64K .r1 0x11223344 0x102)] :
      List (Nat × Nat × Instr)).all (fun (n, w, i) => decide (decodeTableWord n w = some i)) = true := by
  decide

/-- Words written out from the encodings of class JMP (`42_jump.md`): r1, r2, offset 0x0102, imm 0x11223344. -/
theorem test_decode_jmp64_2 :
    ([(64, 0x00000000010221ad, .jlt64X .r1 .r2 0x102),
      (64, 0x11223344010201b5, .jle64K .r1 0x11223344 0x102),
      (64, 0x00000000010221bd, .jle64X .r1 .r2 0x102),
      (64, 0x11223344010201c5, .jslt64K .r1 0x11223344 0x102),
      (64, 0x00000000010221cd, .jslt64X .r1 .r2 0x102),
      (64, 0x11223344010201d5, .jsle64K .r1 0x11223344 0x102),
      (64, 0x00000000010221dd, .jsle64X .r1 .r2 0x102),
      (64, 0x1122334400000085, .callHelper 0x11223344),
      (64, 0x1122334400001085, .callLocal 0x11223344),
      (64, 0x1122334400002085, .callBtf 0x11223344),
      (64, 0x0000000000000095, .exit)] :
      List (Nat × Nat × Instr)).all (fun (n, w, i) => decide (decodeTableWord n w = some i)) = true := by
  decide

/-- Words written out from the encodings of class JMP32: r1, r2, offset 0x0102, imm 0x11223344. -/
theorem test_decode_jmp32_1 :
    ([(64, 0x1122334400000006, .ja32 0x11223344),
      (64, 0x1122334401020116, .jeq32K .r1 0x11223344 0x102),
      (64, 0x000000000102211e, .jeq32X .r1 .r2 0x102),
      (64, 0x1122334401020126, .jgt32K .r1 0x11223344 0x102),
      (64, 0x000000000102212e, .jgt32X .r1 .r2 0x102),
      (64, 0x1122334401020136, .jge32K .r1 0x11223344 0x102),
      (64, 0x000000000102213e, .jge32X .r1 .r2 0x102),
      (64, 0x1122334401020146, .jset32K .r1 0x11223344 0x102),
      (64, 0x000000000102214e, .jset32X .r1 .r2 0x102),
      (64, 0x1122334401020156, .jne32K .r1 0x11223344 0x102),
      (64, 0x000000000102215e, .jne32X .r1 .r2 0x102),
      (64, 0x1122334401020166, .jsgt32K .r1 0x11223344 0x102),
      (64, 0x000000000102216e, .jsgt32X .r1 .r2 0x102),
      (64, 0x1122334401020176, .jsge32K .r1 0x11223344 0x102),
      (64, 0x000000000102217e, .jsge32X .r1 .r2 0x102),
      (64, 0x11223344010201a6, .jlt32K .r1 0x11223344 0x102)] :
      List (Nat × Nat × Instr)).all (fun (n, w, i) => decide (decodeTableWord n w = some i)) = true := by
  decide

/-- Words written out from the encodings of class JMP32: r1, r2, offset 0x0102, imm 0x11223344. -/
theorem test_decode_jmp32_2 :
    ([(64, 0x00000000010221ae, .jlt32X .r1 .r2 0x102),
      (64, 0x11223344010201b6, .jle32K .r1 0x11223344 0x102),
      (64, 0x00000000010221be, .jle32X .r1 .r2 0x102),
      (64, 0x11223344010201c6, .jslt32K .r1 0x11223344 0x102),
      (64, 0x00000000010221ce, .jslt32X .r1 .r2 0x102),
      (64, 0x11223344010201d6, .jsle32K .r1 0x11223344 0x102),
      (64, 0x00000000010221de, .jsle32X .r1 .r2 0x102)] :
      List (Nat × Nat × Instr)).all (fun (n, w, i) => decide (decodeTableWord n w = some i)) = true := by
  decide

/-- Words written out from the encodings of loads and stores (`43_load_store.md`): r1, r2, offset 0x0102, imm 0x11223344. -/
theorem test_decode_load_store :
    ([(64, 0x0000000001022161, .ldxw .r1 .r2 0x102),
      (64, 0x0000000001022169, .ldxh .r1 .r2 0x102),
      (64, 0x0000000001022171, .ldxb .r1 .r2 0x102),
      (64, 0x0000000001022179, .ldxdw .r1 .r2 0x102),
      (64, 0x0000000001022181, .ldxsw .r1 .r2 0x102),
      (64, 0x0000000001022189, .ldxsh .r1 .r2 0x102),
      (64, 0x0000000001022191, .ldxsb .r1 .r2 0x102),
      (64, 0x1122334401020162, .stw .r1 0x102 0x11223344),
      (64, 0x112233440102016a, .sth .r1 0x102 0x11223344),
      (64, 0x1122334401020172, .stb .r1 0x102 0x11223344),
      (64, 0x112233440102017a, .stdw .r1 0x102 0x11223344),
      (64, 0x0000000001022163, .stxw .r1 .r2 0x102),
      (64, 0x000000000102216b, .stxh .r1 .r2 0x102),
      (64, 0x0000000001022173, .stxb .r1 .r2 0x102),
      (64, 0x000000000102217b, .stxdw .r1 .r2 0x102)] :
      List (Nat × Nat × Instr)).all (fun (n, w, i) => decide (decodeTableWord n w = some i)) = true := by
  decide

/-- Words written out from the encodings of atomics (`44_atomic.md`): r1, r2, offset 0x0102, imm 0x11223344. -/
theorem test_decode_atomic_1 :
    ([(64, 0x00000000010221c3, .aadd32 .r1 .r2 0x102),
      (64, 0x00000001010221c3, .aadd32Fetch .r1 .r2 0x102),
      (64, 0x00000040010221c3, .aor32 .r1 .r2 0x102),
      (64, 0x00000041010221c3, .aor32Fetch .r1 .r2 0x102),
      (64, 0x00000050010221c3, .aand32 .r1 .r2 0x102),
      (64, 0x00000051010221c3, .aand32Fetch .r1 .r2 0x102),
      (64, 0x000000a0010221c3, .axor32 .r1 .r2 0x102),
      (64, 0x000000a1010221c3, .axor32Fetch .r1 .r2 0x102),
      (64, 0x000000e1010221c3, .axchg32 .r1 .r2 0x102),
      (64, 0x000000f1010221c3, .acmpxchg32 .r1 .r2 0x102),
      (64, 0x00000000010221db, .aadd64 .r1 .r2 0x102),
      (64, 0x00000001010221db, .aadd64Fetch .r1 .r2 0x102),
      (64, 0x00000040010221db, .aor64 .r1 .r2 0x102),
      (64, 0x00000041010221db, .aor64Fetch .r1 .r2 0x102),
      (64, 0x00000050010221db, .aand64 .r1 .r2 0x102),
      (64, 0x00000051010221db, .aand64Fetch .r1 .r2 0x102)] :
      List (Nat × Nat × Instr)).all (fun (n, w, i) => decide (decodeTableWord n w = some i)) = true := by
  decide

/-- Words written out from the encodings of atomics (`44_atomic.md`): r1, r2, offset 0x0102, imm 0x11223344. -/
theorem test_decode_atomic_2 :
    ([(64, 0x000000a0010221db, .axor64 .r1 .r2 0x102),
      (64, 0x000000a1010221db, .axor64Fetch .r1 .r2 0x102),
      (64, 0x000000e1010221db, .axchg64 .r1 .r2 0x102),
      (64, 0x000000f1010221db, .acmpxchg64 .r1 .r2 0x102)] :
      List (Nat × Nat × Instr)).all (fun (n, w, i) => decide (decodeTableWord n w = some i)) = true := by
  decide

/-- Words written out from the encodings of 64-bit immediates (`45_imm64.md`): r1, r2, offset 0x0102, imm 0x11223344. -/
theorem test_decode_imm64 :
    ([(128, 0x55667788000000001122334400000118, .lddw .r1 0x11223344 0x55667788),
      (128, 0x00000000000000001122334400001118, .ldMapFd .r1 0x11223344),
      (128, 0x55667788000000001122334400002118, .ldMapValFd .r1 0x11223344 0x55667788),
      (128, 0x00000000000000001122334400003118, .ldVarAddr .r1 0x11223344),
      (128, 0x00000000000000001122334400004118, .ldCodeAddr .r1 0x11223344),
      (128, 0x00000000000000001122334400005118, .ldMapIdx .r1 0x11223344),
      (128, 0x55667788000000001122334400006118, .ldMapValIdx .r1 0x11223344 0x55667788)] :
      List (Nat × Nat × Instr)).all (fun (n, w, i) => decide (decodeTableWord n w = some i)) = true := by
  decide

/-- Words written out from the encodings of legacy packet access (`46_legacy_packet.md`): r1, r2, offset 0x0102, imm 0x11223344. -/
theorem test_decode_packet :
    ([(64, 0x1122334400000020, .ldabsw 0x11223344),
      (64, 0x1122334400000028, .ldabsh 0x11223344),
      (64, 0x1122334400000030, .ldabsb 0x11223344),
      (64, 0x1122334400002040, .ldindw .r2 0x11223344),
      (64, 0x1122334400002048, .ldindh .r2 0x11223344),
      (64, 0x1122334400002050, .ldindb .r2 0x11223344)] :
      List (Nat × Nat × Instr)).all (fun (n, w, i) => decide (decodeTableWord n w = some i)) = true := by
  decide

/-! ### One step of each instruction: the spec's own vectors -/

/-- Table V-ALU: the word, R1 and R2 before, R1 after the step. -/
theorem test_alu_1 :
    ([(0x000000000000210f, 0xffffffffffffffff, 0x1, 0x0),
      (0x000000000000210c, 0x1ffffffff, 0x1, 0x0),
      (0xffffffff00000107, 0x0, 0x0, 0xffffffffffffffff),
      (0xffffffff00000104, 0xdeadbeef00000000, 0x0, 0xffffffff),
      (0x000000000000211f, 0x0, 0x1, 0xffffffffffffffff),
      (0x0000000100000114, 0x0, 0x0, 0xffffffff),
      (0x000000000000212f, 0x8000000000000001, 0x2, 0x2),
      (0x000000000000212c, 0xffffffff, 0xffffffff, 0x1),
      (0x000000000000213f, 0x64, 0x7, 0xe),
      (0x000000000000213f, 0x64, 0x0, 0x0),
      (0x000000000000213c, 0xffffffff00000064, 0x0, 0x0),
      (0xffffffff00000137, 0xffffffffffffffff, 0x0, 0x1),
      (0xffffffff00000134, 0xffffffff, 0x0, 0x1),
      (0x000000000001213f, 0xfffffffffffffff8, 0x2, 0xfffffffffffffffc)] :
      List (Nat × Word × Word × Word)).all (fun (w, a, b, v) =>
      decide ((after (step ((sample .little a b).withFetchWord 64 w))).map (fun t => (t.reg .r1, t.pc)) = some (.written v, 1))) = true := by
  decide

/-- Table V-ALU: the word, R1 and R2 before, R1 after the step. -/
theorem test_alu_2 :
    ([(0x0000000300010137, 0xfffffffffffffff3, 0x0, 0xfffffffffffffffc),
      (0x000000000001213f, 0x7, 0x0, 0x0),
      (0x000000000001213c, 0x80000000, 0xffffffff, 0x80000000),
      (0x0000000300010134, 0xfffffff3, 0x0, 0xfffffffc),
      (0x000000000000219f, 0x64, 0x7, 0x2),
      (0x000000000000219f, 0x123456789abcdef0, 0x0, 0x123456789abcdef0),
      (0x000000000000219c, 0x123456789abcdef0, 0x0, 0x9abcdef0),
      (0x0000000300010197, 0xfffffffffffffff3, 0x0, 0xffffffffffffffff),
      (0xfffffffd00010197, 0xd, 0x0, 0x1),
      (0x000000000001219f, 0x8000000000000000, 0xffffffffffffffff, 0x0),
      (0x000000000001219c, 0xaaaaaaaafffffff3, 0x0, 0xfffffff3),
      (0x8000000000000147, 0x0, 0x0, 0xffffffff80000000),
      (0x8000000000000144, 0xffffffff00000000, 0x0, 0x80000000),
      (0xffffffff00000157, 0x123456789abcdef0, 0x0, 0x123456789abcdef0)] :
      List (Nat × Word × Word × Word)).all (fun (w, a, b, v) =>
      decide ((after (step ((sample .little a b).withFetchWord 64 w))).map (fun t => (t.reg .r1, t.pc)) = some (.written v, 1))) = true := by
  decide

/-- Table V-ALU: the word, R1 and R2 before, R1 after the step. -/
theorem test_alu_3 :
    ([(0x7fffffff00000157, 0x123456789abcdef0, 0x0, 0x1abcdef0),
      (0x000000000000215c, 0x123456789abcdef0, 0xffffffffffff0000, 0x9abc0000),
      (0x00000000000021af, 0xf0f0f0f0f0f0f0f, 0xffffffffffffffff, 0xf0f0f0f0f0f0f0f0),
      (0x0000003f00000167, 0x1, 0x0, 0x8000000000000000),
      (0x000000000000216f, 0x1, 0x40, 0x1),
      (0x000000000000216f, 0x1, 0x100000041, 0x2),
      (0x000000000000216c, 0x1, 0x20, 0x1),
      (0x0000000100000164, 0x80000001, 0x0, 0x2),
      (0x0000003f00000177, 0x8000000000000000, 0x0, 0x1),
      (0x0000001f00000174, 0xffffffff80000000, 0x0, 0x1),
      (0x0000003f000001c7, 0x8000000000000000, 0x0, 0xffffffffffffffff),
      (0x0000001f000001c4, 0x80000000, 0x0, 0xffffffff),
      (0x00000000000021cc, 0x7fffffff, 0x21, 0x3fffffff),
      (0x0000000000000187, 0x1, 0x0, 0xffffffffffffffff)] :
      List (Nat × Word × Word × Word)).all (fun (w, a, b, v) =>
      decide ((after (step ((sample .little a b).withFetchWord 64 w))).map (fun t => (t.reg .r1, t.pc)) = some (.written v, 1))) = true := by
  decide

/-- Table V-ALU: the word, R1 and R2 before, R1 after the step. -/
theorem test_alu_4 :
    ([(0x0000000000000187, 0x8000000000000000, 0x0, 0x8000000000000000),
      (0x0000000000000184, 0xffffffff00000001, 0x0, 0xffffffff),
      (0x0000000000000184, 0x0, 0x0, 0x0),
      (0xfffffffe000001b7, 0x1111111111111111, 0x0, 0xfffffffffffffffe),
      (0xfffffffe000001b4, 0x1111111111111111, 0x0, 0xfffffffe),
      (0x00000000000021bf, 0x0, 0xfedcba9876543210, 0xfedcba9876543210),
      (0x00000000000021bc, 0x0, 0xfedcba9876543210, 0x76543210),
      (0x00000000000821bf, 0x0, 0x17f, 0x7f),
      (0x00000000000821bf, 0x0, 0x180, 0xffffffffffffff80),
      (0x00000000001021bf, 0x0, 0x18000, 0xffffffffffff8000),
      (0x00000000002021bf, 0x0, 0x180000000, 0xffffffff80000000),
      (0x00000000000821bc, 0x0, 0x180, 0xffffff80),
      (0x00000000001021bc, 0x0, 0x7fff, 0x7fff)] :
      List (Nat × Word × Word × Word)).all (fun (w, a, b, v) =>
      decide ((after (step ((sample .little a b).withFetchWord 64 w))).map (fun t => (t.reg .r1, t.pc)) = some (.written v, 1))) = true := by
  decide

/-- Table V-END: the word, R1 after the step on a little-endian and on a big-endian host; R1 before is 0x1122334455667788. -/
theorem test_byteswap :
    ([(0x00000010000001d4, 0x7788, 0x8877),
      (0x00000020000001d4, 0x55667788, 0x88776655),
      (0x00000040000001d4, 0x1122334455667788, 0x8877665544332211),
      (0x00000010000001dc, 0x8877, 0x7788),
      (0x00000020000001dc, 0x88776655, 0x55667788),
      (0x00000040000001dc, 0x8877665544332211, 0x1122334455667788),
      (0x00000010000001d7, 0x8877, 0x8877),
      (0x00000020000001d7, 0x88776655, 0x88776655),
      (0x00000040000001d7, 0x8877665544332211, 0x8877665544332211)] :
      List (Nat × Word × Word)).all (fun (w, l, b) =>
      decide ((after (step ((sample .little 0x1122334455667788 0).withFetchWord 64 w))).map (fun t => t.reg .r1) = some (.written l)) &&
      decide ((after (step ((sample .big 0x1122334455667788 0).withFetchWord 64 w))).map (fun t => t.reg .r1) = some (.written b))) = true := by
  decide

/-- Table V-JMP: the word, R1 and R2 before, pc after the step at slot 0. -/
theorem test_jump_1 :
    ([(0x000000000002211d, 0x5, 0x5, 3),
      (0xffffffff00020115, 0xffffffffffffffff, 0x0, 3),
      (0xffffffff00020116, 0x12345678ffffffff, 0x0, 3),
      (0xffffffff00020115, 0xffffffff, 0x0, 1),
      (0x000000000002215d, 0x5, 0x5, 1),
      (0x000000000002215e, 0x100000005, 0x200000005, 1),
      (0x000000000002212d, 0xffffffffffffffff, 0x1, 3),
      (0x000000000002216d, 0xffffffffffffffff, 0x1, 1),
      (0x000000000002212e, 0x80000000, 0x7fffffff, 3),
      (0x000000000002216e, 0x80000000, 0x7fffffff, 1),
      (0x0000000000020135, 0x0, 0x0, 3),
      (0xffffffff00020135, 0x5, 0x0, 1),
      (0xffffffff00020175, 0x5, 0x0, 3),
      (0x00000000000221ad, 0x1, 0xffffffffffffffff, 3)] :
      List (Nat × Word × Word × Int)).all (fun (w, a, b, p) =>
      decide ((after (step ((sample .little a b).withFetchWord 64 w))).map (fun t => (t.pc, t.regs)) = some (p, (sample .little a b).regs))) = true := by
  decide

/-- Table V-JMP: the word, R1 and R2 before, pc after the step at slot 0. -/
theorem test_jump_2 :
    ([(0x00000000000221cd, 0x1, 0xffffffffffffffff, 1),
      (0x00000000000221bd, 0x7, 0x7, 3),
      (0xfffffff6000201d6, 0xfffffff6, 0x0, 3),
      (0x00000000000201c6, 0xfffffff6, 0x0, 3),
      (0x00000000000201c5, 0xfffffff6, 0x0, 1),
      (0x000000000002214d, 0xf0, 0xf, 1),
      (0x000000000002214d, 0xf0, 0x10, 3),
      (0xffffffff00020145, 0x8000000000000000, 0x0, 3),
      (0xffffffff00020146, 0x8000000000000000, 0x0, 1),
      (0x0000000000000005, 0x0, 0x0, 1),
      (0x0000000000050005, 0x0, 0x0, 6),
      (0x0001117000000006, 0x0, 0x0, 70001),
      (0xfffffffd00000006, 0x0, 0x0, -2)] :
      List (Nat × Word × Word × Int)).all (fun (w, a, b, p) =>
      decide ((after (step ((sample .little a b).withFetchWord 64 w))).map (fun t => (t.pc, t.regs)) = some (p, (sample .little a b).regs))) = true := by
  decide

/-- Table V-MEM: the word, the base R2, R1 after the step on a little-endian and on a big-endian host. -/
theorem test_load :
    ([(0x0000000000082171, 0x1000, 0xf8, 0xf8),
      (0x0000000000082191, 0x1000, 0xfffffffffffffff8, 0xfffffffffffffff8),
      (0x0000000000002171, 0x1000, 0x88, 0x88),
      (0x0000000000002191, 0x1000, 0xffffffffffffff88, 0xffffffffffffff88),
      (0x0000000000082169, 0x1000, 0xf9f8, 0xf8f9),
      (0x0000000000082189, 0x1000, 0xfffffffffffff9f8, 0xfffffffffffff8f9),
      (0x0000000000002161, 0x1000, 0x55667788, 0x88776655),
      (0x0000000000082161, 0x1000, 0xfbfaf9f8, 0xf8f9fafb),
      (0x0000000000082181, 0x1000, 0xfffffffffbfaf9f8, 0xfffffffff8f9fafb),
      (0x0000000000042181, 0x1000, 0x11223344, 0x44332211),
      (0x0000000000002179, 0x1000, 0x1122334455667788, 0x8877665544332211),
      (0x0000000000082179, 0x1000, 0xfffefdfcfbfaf9f8, 0xf8f9fafbfcfdfeff)] :
      List (Nat × Word × Word × Word)).all (fun (w, a, l, b) =>
      decide ((after (step ((sample .little 0 a).withFetchWord 64 w))).map (fun t => t.reg .r1) = some (.written l)) &&
      decide ((after (step ((sample .big 0 a).withFetchWord 64 w))).map (fun t => t.reg .r1) = some (.written b))) = true := by
  decide

/-- Table V-MEM: the word, the base R1, the value R2, the address stored to, the bytes there after the step on a
little-endian and on a big-endian host. -/
theorem test_store :
    ([(0x1234567a00000172, 0x1000, 0x0, 4096, [0x7a], [0x7a]),
      (0xfffffffe0002016a, 0x1000, 0x0, 4098, [0xfe, 0xff], [0xff, 0xfe]),
      (0xfffffffe00040162, 0x1000, 0x0, 4100, [0xfe, 0xff, 0xff, 0xff], [0xff, 0xff, 0xff, 0xfe]),
      (0xfffffffe0008017a, 0x1000, 0x0, 4104, [0xfe, 0xff, 0xff, 0xff, 0xff, 0xff, 0xff, 0xff], [0xff, 0xff, 0xff, 0xff, 0xff, 0xff, 0xff, 0xfe]),
      (0x7fffffff0000017a, 0x1000, 0x0, 4096, [0xff, 0xff, 0xff, 0x7f, 0x00, 0x00, 0x00, 0x00], [0x00, 0x00, 0x00, 0x00, 0x7f, 0xff, 0xff, 0xff]),
      (0x00000000000f2173, 0x1000, 0x1122334455667788, 4111, [0x88], [0x88]),
      (0x00000000000e216b, 0x1000, 0x1122334455667788, 4110, [0x88, 0x77], [0x77, 0x88]),
      (0x00000000000c2163, 0x1000, 0x1122334455667788, 4108, [0x88, 0x77, 0x66, 0x55], [0x55, 0x66, 0x77, 0x88]),
      (0x000000000008217b, 0x1000, 0x1122334455667788, 4104, [0x88, 0x77, 0x66, 0x55, 0x44, 0x33, 0x22, 0x11], [0x11, 0x22, 0x33, 0x44, 0x55, 0x66, 0x77, 0x88])] :
      List (Nat × Word × Word × Nat × List Byte × List Byte)).all (fun (w, a, v, ea, l, b) =>
      decide ((after (step ((sample .little a v).withFetchWord 64 w))).map (fun t => t.mem) =
        some ((sample .little a v).mem.setBytes ea l)) &&
      decide ((after (step ((sample .big a v).withFetchWord 64 w))).map (fun t => t.mem) =
        some ((sample .big a v).mem.setBytes ea b))) = true := by
  decide

/-- Table V-MEM: the word, R1, R2, the cause of the fault. -/
theorem test_memory_faults :
    ([(0x0000000000012169, 0, 0x1000, .misaligned 4097 2),
      (0x0000000000102161, 0, 0x1000, .memFault 4112 4 .read),
      (0x00000000000c2179, 0, 0x1000, .misaligned 4108 8),
      (0x0000000000002171, 0, 0xfff, .memFault 4095 1 .read),
      (0x0000000000022163, 0x1000, 0x1, .misaligned 4098 4),
      (0x000000000010217b, 0x1000, 0x1, .memFault 4112 8 .write)] :
      List (Nat × Word × Word × Cause)).all (fun (w, a, b, c) =>
      decide ((after (step ((sample .little a b).withFetchWord 64 w))).map (fun t => t.status) = some (.faulted c 0))) = true := by
  decide

/-- Table V-ATOMIC at address 0x1008: the word, R2 and R0 before, the width, the memory value, R2 and R0 after. -/
theorem test_atomic_1 :
    ([(0x00000000000821c3, 0xaaaaaaaa00000010, 0x0, 4, 0xfbfafa08, 0xaaaaaaaa00000010, 0x0),
      (0x00000001000821c3, 0xaaaaaaaa00000010, 0x0, 4, 0xfbfafa08, 0xfbfaf9f8, 0x0),
      (0x00000000000821c3, 0x4050608, 0x0, 4, 0x0, 0x4050608, 0x0),
      (0x00000040000821c3, 0x7, 0x0, 4, 0xfbfaf9ff, 0x7, 0x0),
      (0x00000041000821c3, 0x7, 0x0, 4, 0xfbfaf9ff, 0xfbfaf9f8, 0x0),
      (0x00000050000821c3, 0xffff0000, 0x0, 4, 0xfbfa0000, 0xffff0000, 0x0),
      (0x00000051000821c3, 0xffff0000, 0x0, 4, 0xfbfa0000, 0xfbfaf9f8, 0x0),
      (0x000000a0000821c3, 0xffffffff, 0x0, 4, 0x4050607, 0xffffffff, 0x0),
      (0x000000a1000821c3, 0xffffffff, 0x0, 4, 0x4050607, 0xfbfaf9f8, 0x0),
      (0x000000e1000821c3, 0x1111111122222222, 0x0, 4, 0x22222222, 0xfbfaf9f8, 0x0),
      (0x000000f1000821c3, 0x1111111122222222, 0x99999999fbfaf9f8, 4, 0x22222222, 0x1111111122222222, 0xfbfaf9f8),
      (0x000000f1000821c3, 0x1111111122222222, 0xdeadbeef, 4, 0xfbfaf9f8, 0x1111111122222222, 0xfbfaf9f8)] :
      List (Nat × Word × Word × Nat × Word × Word × Word)).all (fun (w, v, c, n, m, v', c') =>
      decide ((after (step ((sampleR0 v c).withFetchWord 64 w))).map (fun t => (t.valueAt 0x1008 n, t.reg .r2, t.reg .r0)) =
        some (m, .written v', .written c'))) = true := by
  decide

/-- Table V-ATOMIC at address 0x1008: the word, R2 and R0 before, the width, the memory value, R2 and R0 after. -/
theorem test_atomic_2 :
    ([(0x00000000000821db, 0x1020304050608, 0x0, 8, 0x0, 0x1020304050608, 0x0),
      (0x00000001000821db, 0x1, 0x0, 8, 0xfffefdfcfbfaf9f9, 0xfffefdfcfbfaf9f8, 0x0),
      (0x00000040000821db, 0xff, 0x0, 8, 0xfffefdfcfbfaf9ff, 0xff, 0x0),
      (0x00000041000821db, 0xff, 0x0, 8, 0xfffefdfcfbfaf9ff, 0xfffefdfcfbfaf9f8, 0x0),
      (0x00000050000821db, 0xffffffff, 0x0, 8, 0xfbfaf9f8, 0xffffffff, 0x0),
      (0x00000051000821db, 0xffffffff, 0x0, 8, 0xfbfaf9f8, 0xfffefdfcfbfaf9f8, 0x0),
      (0x000000a0000821db, 0xffffffffffffffff, 0x0, 8, 0x1020304050607, 0xffffffffffffffff, 0x0),
      (0x000000a1000821db, 0xffffffffffffffff, 0x0, 8, 0x1020304050607, 0xfffefdfcfbfaf9f8, 0x0),
      (0x000000e1000821db, 0x1111111122222222, 0x0, 8, 0x1111111122222222, 0xfffefdfcfbfaf9f8, 0x0),
      (0x000000f1000821db, 0x1111111122222222, 0xfffefdfcfbfaf9f8, 8, 0x1111111122222222, 0x1111111122222222, 0xfffefdfcfbfaf9f8),
      (0x000000f1000821db, 0x1111111122222222, 0xfbfaf9f8, 8, 0xfffefdfcfbfaf9f8, 0x1111111122222222, 0xfffefdfcfbfaf9f8)] :
      List (Nat × Word × Word × Nat × Word × Word × Word)).all (fun (w, v, c, n, m, v', c') =>
      decide ((after (step ((sampleR0 v c).withFetchWord 64 w))).map (fun t => (t.valueAt 0x1008 n, t.reg .r2, t.reg .r0)) =
        some (m, .written v', .written c'))) = true := by
  decide

/-- Table V-DECODE: a program of these slots raises `IllegalInstruction` at slot 0. -/
theorem test_illegal_encodings_1 :
    ([[0x0000000000000000],
      [0x000000000000018c],
      [0x00000010000001df],
      [0x00000008000001d4],
      [0x0000000100000b07],
      [0x000000000000c10f],
      [0x0000000100002107],
      [0x000000050000210f],
      [0x0000000100030107],
      [0x0000000100020137],
      [0x00000000002021bc],
      [0x00000005000801b7]] :
      List (List Slot)).all (fun slots =>
      decide ((after (step (running slots))).map (fun t => t.status) = some (.faulted .illegalInstruction 0))) = true := by
  decide

/-- Table V-DECODE: a program of these slots raises `IllegalInstruction` at slot 0. -/
theorem test_illegal_encodings_2 :
    ([[0x0000000500000ab7],
      [0x0000000100003085],
      [0x000000010000008d],
      [0x000000000000009d],
      [0x0000000100000095],
      [0x0000000100000086],
      [0x000000000001000d],
      [0x0000000000012115],
      [0x0000000000002199],
      [0x0000000000000182],
      [0x00000000000021d3],
      [0x00000000000021cb]] :
      List (List Slot)).all (fun slots =>
      decide ((after (step (running slots))).map (fun t => t.status) = some (.faulted .illegalInstruction 0))) = true := by
  decide

/-- Table V-DECODE: a program of these slots raises `IllegalInstruction` at slot 0. -/
theorem test_illegal_encodings_3 :
    ([[0x00000010000021db],
      [0x000000e0000021db],
      [0x000000f0000021db],
      [0x000000010000a1db],
      [0x0000000000007118, 0x0000000000000000],
      [0x0000000100000118, 0x0000000000000007],
      [0x0000000100001118, 0x0000000900000000],
      [0x0000000100000118],
      [0x0000000100040118, 0x0000000000000000]] :
      List (List Slot)).all (fun slots =>
      decide ((after (step (running slots))).map (fun t => t.status) = some (.faulted .illegalInstruction 0))) = true := by
  decide

/-! ### One step: calls, returns, wide forms, faults -/

/-- A state with a platform: helpers 1 (no argument, total), 2 (five arguments, total), 3 (a refusal), 4 (the platform
decides), and the tables of the address forms. -/
def platform : State :=
  let s := sample .little 5 3
  { s with params := { s.params with
      program := List.replicate 4 0x95
      helpers := [(1, ⟨0, .never⟩), (2, ⟨5, .never⟩), (3, ⟨0, .always⟩), (4, ⟨1, .platform⟩)]
      btfHelpers := [(1, ⟨0, .never⟩), (2, ⟨5, .never⟩), (3, ⟨0, .always⟩), (4, ⟨1, .platform⟩)]
      mapByFd := [(7, 0x2000), (8, 0x3000)], mapByIdx := [(7, 0x2000), (8, 0x3000)], mapVal := [(0x2000, 0x2100)]
      varAddr := [(7, 0x4000)], codeAddr := [((0, 7), 0x5000)] } }

/-- A state at call depth `d`, with R2 unwritten. -/
def deep (d : Nat) : State :=
  { platform with
    frames := List.replicate d { ret := 1, saved := some ⟨.unwritten, .written 1, .written 2, .written 3, .written 4⟩ }
    regs := { platform.regs with r2 := .unwritten } }

/-- A state whose parameters are changed. -/
def withParams (s : State) (f : Params → Params) : State := { s with params := f s.params }

/-- A program-local call: the frame, the cleared registers, the callee's frame pointer and the target (R272, R277). -/
theorem test_call_local : (after (execCallLocal 0x2 (deep 7))).map
    (fun t => (t.pc, t.frames.length, t.reg .r0, t.reg .r1, t.reg .r6, t.reg .r10)) =
    some (3, 8, .unwritten, .written 5, .unwritten, .written 0x7000) := by decide

/-- The largest depth (R279). -/
theorem test_call_depth : (after (execCallLocal 0x2 (deep 8))).map (fun t => t.status) =
    some (.faulted .callDepthExceeded 0) := by decide

/-- A return gives back R6 to R10 and leaves the arguments unwritten (R277). -/
theorem test_return : (after (execExit (deep 1))).map
    (fun t => (t.pc, t.frames.length, t.reg .r0, t.reg .r1, t.reg .r7, t.reg .r10)) =
    some (1, 0, .written 0, .unwritten, .written 1, .written 4) := by decide

/-- `EXIT` at depth 0 (R274). -/
theorem test_exit : (after (execExit (sampleR0 1 9))).map (fun t => (t.status, t.pc)) =
    some (.exited 9, 0) := by decide

/-- A known helper's call goes on at the next slot, R1 unwritten and R6 kept, whatever the helper answers (R275). -/
theorem test_helper : (after (execCallHelper 2 platform)).map (fun t => (t.pc, t.status, t.reg .r1, t.reg .r6)) =
    some (1, .running, .unwritten, .written 0) := by decide

/-- The same of a call by BTF id (R273), and the refusals of both (R389, R390). -/
theorem test_btf_and_refusals :
    (after (execCallBtf 1 platform)).map (fun t => (t.pc, t.status)) = some (1, .running) ∧
    (after (execCallBtf 3 platform)).map (fun t => t.status) = some (.faulted (.helperFault 3) 0) ∧
    (after (execCallHelper 9 platform)).map (fun t => t.status) = some (.faulted (.unknownHelper 9) 0) := by decide

/-- The six address forms where the platform defines them (R353 to R358); the displacement is signed. -/
theorem test_addresses :
    ([(.ldMapFd .r1 7, 0x2000), (.ldMapValFd .r1 7 0xfffffff0, 0x20f0), (.ldVarAddr .r1 7, 0x4000),
      (.ldCodeAddr .r1 7, 0x5000), (.ldMapIdx .r1 7, 0x2000), (.ldMapValIdx .r1 7 0x10, 0x2110)] :
      List (Instr × Word)).all (fun (i, v) =>
        decide ((after (exec i platform)).map (fun t => (t.reg .r1, t.pc)) = some (.written v, 2))) = true := by decide

/-- Where it does not define them, a map without a value area among them (R392). -/
theorem test_unresolved :
    ([.ldMapFd .r1 6, .ldMapValFd .r1 8 0, .ldVarAddr .r1 6, .ldCodeAddr .r1 6, .ldMapIdx .r1 6,
      .ldMapValIdx .r1 8 0] : List Instr).all (fun i =>
        decide ((after (exec i platform)).map (fun t => t.status) = some (.faulted .unresolvedAddress 0))) = true := by
  decide

/-- The legacy packet instructions with and without their group (R370). -/
theorem test_packet :
    ([.ldabsw 14, .ldabsh 14, .ldabsb 14, .ldindw .r1 14, .ldindh .r1 14, .ldindb .r1 14] : List Instr).all (fun i =>
        decide ((after (exec i platform)).map (fun t => t.status) = some (.faulted .illegalInstruction 0)) &&
        decide ((after (exec i (withParams platform fun p => { p with groups := { p.groups with packet := true } }))).map
          (fun t => t.status) = some (.faulted .unsupported 0))) = true := by decide

/-- Reading an unwritten register faults (R386). -/
theorem test_unwritten : (after (execAdd64X .r1 .r2 (deep 0))).map (fun t => t.status) =
    some (.faulted (.uninitRegister .r2) 0) := by decide

/-- The causes of a fetch: past the end, before the start, a second slot (R383, R385). -/
theorem test_fetch_faults :
    (after (step (running []))).map (fun t => t.status) = some (.faulted (.pcOutOfRange 0) 0) ∧
    (after (step { running [0x95] with pc := -1 })).map (fun t => t.status) =
      some (.faulted (.pcOutOfRange (-1)) (-1)) ∧
    (after (step { running [0x118, 0x95] with pc := 1 })).map (fun t => t.status) =
      some (.faulted .jumpIntoWide 1) := by decide

/-! ### Witnesses: for each statement with hypotheses, values that meet them -/

/-- EntryState: well-formed parameters, one of them with launch bytes in an unshared region. -/
theorem test_witness_EntryState : wellFormedParams (sampleParams .little) = true ∧
    (State.entry (sampleParams .little) platform.regs [1]).mem.get 0x100f = some 0xff ∧
    (State.entry (sampleParams .little) platform.regs [1]).mem.get 0x1010 = none := by decide

/-- EntryPoint: a program that decodes from slot 0, and an empty one. -/
theorem test_witness_EntryPoint :
    decode .little true (running [0xb7]).params.program = .ok (.mov64K .r0 0) ∧
    wellFormed (running [0xb7]).params (.mov64K .r0 0) = true ∧ (running []).params.program = [] := by decide

/-- The statements on registers (AddSubMulNegResult, DivModResult, SdivSmodResult, BitwiseResult, ShiftResult, MoveResult,
ByteSwapTwice, ConditionalJump64, ConditionalJump32): the registers read are written, with divisors that are not 0. -/
theorem test_witness_registers :
    (sample .little 5 3).reg .r1 = .written 5 ∧ (sample .little 5 3).reg .r2 = .written 3 ∧
    (3 : Word).setWidth 32 ≠ 0#32 ∧ (3 : Word) ≠ 0 ∧ (0xffffffff : Word32) ≠ 0 := by decide

/-- DivisionByZero: a divisor that is 0 in its low half alone, and one that is 0. -/
theorem test_witness_DivisionByZero :
    (sample .little 5 0x100000000).reg .r2 = .written 0x100000000 ∧ (0x100000000 : Word).setWidth 32 = 0#32 ∧
    (sample .little 5 0).reg .r2 = .written 0 := by decide

/-- SignedDivisionOverflow: the most negative value and -1 in both widths. -/
theorem test_witness_SignedDivisionOverflow :
    (sample .little 0x8000000000000000 0xffffffffffffffff).reg .r1 = .written 0x8000000000000000 ∧
    (sample .little 0x8000000000000000 0xffffffffffffffff).reg .r2 = .written 0xffffffffffffffff ∧
    (sample .little 0x180000000 0x1ffffffff).reg .r1 = .written 0x180000000 ∧
    (0x180000000 : Word).setWidth 32 = 0x80000000#32 ∧ (0x1ffffffff : Word).setWidth 32 = 0xffffffff#32 := by decide

/-- ByteSwapResult: both hosts. -/
theorem test_witness_ByteSwapResult :
    (sample .little 5 3).reg .r1 = .written 5 ∧ (sample .little 5 3).params.hostEndian = .little ∧
    (sample .big 5 3).reg .r1 = .written 5 ∧ (sample .big 5 3).params.hostEndian = .big := by decide

/-- CallLocalResult and CallThenReturn: one below the largest depth, under each policy. -/
theorem test_witness_CallLocalResult :
    (deep 7).params.maxCallDepth = some 8 ∧ (deep 7).frames.length < 8 ∧ (deep 7).params.framePolicy = .linux ∧
    (withParams (deep 7) fun p => { p with framePolicy := .controlOnly }).params.framePolicy = .controlOnly ∧
    (withParams (deep 7) fun p => { p with framePolicy := .controlOnly }).frames.length < 8 := by decide

/-- CallDepthBound: at the largest depth, and without one. -/
theorem test_witness_CallDepthBound :
    (deep 8).params.maxCallDepth = some 8 ∧ (deep 8).frames.length = 8 ∧
    (withParams (deep 9) fun p => { p with maxCallDepth := none }).params.maxCallDepth = none := by decide

/-- ExitEndsRun, ReturnResult: no frame with R0 written; a frame that saved registers; one that saved none. -/
theorem test_witness_exit :
    (sampleR0 1 9).frames = [] ∧ (sampleR0 1 9).reg .r0 = .written 9 ∧
    (deep 1).frames = { ret := 1, saved := some ⟨.unwritten, .written 1, .written 2, .written 3, .written 4⟩ } :: [] ∧
    ({ deep 1 with frames := [{ ret := 1, saved := none }] } : State).frames = { ret := 1, saved := none } :: [] := by
  decide

/-- HelperCallResult: an entry without arguments, and one with all five, of either kind. Of an entry where the platform
decides the registers and the entry are in the witness of HelperRefusal; whether the platform refuses is a free value (log
15), so one of the two statements applies to it and nothing can say which. -/
theorem test_witness_HelperCallResult : ∀ kind ∈ [CallKind.byId, .byBtf],
    platform.params.helper kind 1 = some ⟨0, .never⟩ ∧
    ([Reg.r1, .r2, .r3, .r4, .r5].take 0).map platform.reg = ([] : List Word).map Cell.written ∧
    platform.params.helper kind 2 = some ⟨5, .never⟩ ∧
    ([Reg.r1, .r2, .r3, .r4, .r5].take 5).map platform.reg = ([5, 3, 0, 0, 0] : List Word).map Cell.written := by
  decide

/-- HelperRefusal: an entry that is a refusal, and one where the platform decides. -/
theorem test_witness_HelperRefusal : ∀ kind ∈ [CallKind.byId, .byBtf],
    platform.params.helper kind 3 = some ⟨0, .always⟩ ∧
    ([Reg.r1, .r2, .r3, .r4, .r5].take 0).map platform.reg = ([] : List Word).map Cell.written ∧
    platform.params.helper kind 4 = some ⟨1, .platform⟩ ∧
    ([Reg.r1, .r2, .r3, .r4, .r5].take 1).map platform.reg = ([5] : List Word).map Cell.written := by decide

/-- UnknownHelperFault: an id neither table has. -/
theorem test_witness_UnknownHelperFault :
    lookup platform.params.helpers 9 = none ∧ lookup platform.params.btfHelpers 9 = none := by decide

/-- LoadResult, StoreResult, AtomicResult, AtomicFetchResult, CompareExchangeResult: the registers written, and for each
width the first and the last aligned address of a region with every right. -/
theorem test_witness_access : ∀ n ∈ [1, 2, 4, 8], ∀ base ∈ [0x1000, 0x1010 - n],
    (sample .little (BitVec.ofNat 64 base) 3).reg .r1 = .written (BitVec.ofNat 64 base) ∧
    (sample .little (BitVec.ofNat 64 base) 3).reg .r2 = .written 3 ∧
    (sample .little (BitVec.ofNat 64 base) 3).reg .r0 = .written 0 ∧
    (BitVec.ofNat 64 base + (0 : Offset).signExtend 64).toNat % n = 0 ∧
    (BitVec.ofNat 64 base + (0 : Offset).signExtend 64).toNat + n ≤ 2 ^ 64 ∧
    (sample .little (BitVec.ofNat 64 base) 3).params.regions = [sampleRegion] ∧ sampleRegion.readable = true ∧
    sampleRegion.writable = true ∧
    sampleRegion.base.toNat ≤ (BitVec.ofNat 64 base + (0 : Offset).signExtend 64).toNat ∧
    (BitVec.ofNat 64 base + (0 : Offset).signExtend 64).toNat + n ≤ sampleRegion.base.toNat + sampleRegion.len := by
  decide

/-- ByteRead: in no shared region, a written byte and an unwritten one; and a shared byte. -/
theorem test_witness_ByteRead :
    (∀ r ∈ (sample .little 5 3).params.regions, r.sharing ≠ .shared) ∧
    (sample .little 5 3).mem.get 0x1000 = some 0x88 ∧ (sample .little 5 3).mem.get 0x1010 = none ∧
    ({ sampleRegion with sharing := .shared } : Region) ∈ (withParams (sample .little 5 3) fun p =>
      { p with regions := [{ sampleRegion with sharing := .shared }] }).params.regions ∧
    sampleRegion.base.toNat ≤ 0x100f ∧ 0x100f < sampleRegion.base.toNat + sampleRegion.len := by decide

/-- MisalignedFault: an atomic, and a load under `STRICT_ALIGNMENT`, at the largest address. -/
theorem test_witness_MisalignedFault :
    let s := sample .little 0xffffffffffffffff 3
    memoryAccess (.aadd32 .r1 .r2 0) = some ⟨.r1, 0, 4, .atomic⟩ ∧
    (∀ r ∈ readRegs s (.aadd32 .r1 .r2 0), s.reg r ≠ .unwritten) ∧
    memoryAccess (.ldxh .r2 .r1 0) = some ⟨.r1, 0, 2, .read⟩ ∧
    (∀ r ∈ readRegs s (.ldxh .r2 .r1 0), s.reg r ≠ .unwritten) ∧ s.reg .r1 = .written 0xffffffffffffffff ∧
    (0xffffffffffffffff + (0 : Offset).signExtend 64 : Word).toNat % 2 ≠ 0 ∧
    (0xffffffffffffffff + (0 : Offset).signExtend 64 : Word).toNat % 4 ≠ 0 ∧ s.params.strictAlignment = true := by
  decide

/-- MemFaultFault: the aligned address just past the region, and an atomic in a region that is not writable. -/
theorem test_witness_MemFaultFault :
    let s := sample .little 0x1010 3
    let u := withParams (sample .little 0x1008 3) fun p => { p with regions := [{ sampleRegion with writable := false }] }
    memoryAccess (.stxdw .r1 .r2 0) = some ⟨.r1, 0, 8, .write⟩ ∧
    (∀ r ∈ readRegs s (.stxdw .r1 .r2 0), s.reg r ≠ .unwritten) ∧ s.reg .r1 = .written 0x1010 ∧
    (0x1010 + (0 : Offset).signExtend 64 : Word).toNat % 8 = 0 ∧
    (∀ r ∈ s.params.regions, ¬(0x1010 + 8 ≤ r.base.toNat + r.len)) ∧
    memoryAccess (.aadd64 .r1 .r2 0) = some ⟨.r1, 0, 8, .atomic⟩ ∧
    (∀ r ∈ readRegs u (.aadd64 .r1 .r2 0), u.reg r ≠ .unwritten) ∧ u.reg .r1 = .written 0x1008 ∧
    (∀ r ∈ u.params.regions, r.writable = false) := by decide

/-- A state without `STRICT_ALIGNMENT`, R1 the given address, R2 a value whose bytes differ. -/
def bytewise (e : Endian) (base : Word) : State :=
  withParams (sample e base 0x1112131415161718) fun p => { p with strictAlignment := false }

/-- A misaligned load without `STRICT_ALIGNMENT`: bytes 0x1003 to 0x1006 are 55 44 33 22 (R44, R53). -/
theorem test_bytewise_load :
    (after (execLdxw .r3 .r1 2 (bytewise .little 0x1001))).map (fun t => (t.reg .r3, t.pc)) =
      some (.written 0x22334455, 1) ∧
    (after (execLdxsh .r3 .r1 0 (bytewise .big 0x1009))).map (fun t => t.reg .r3) =
      some (.written 0xfffffffffffff9fa) := by decide

/-- A misaligned store without `STRICT_ALIGNMENT` lays down its own bytes and no neighbour (R44, R54). -/
theorem test_bytewise_store :
    (after (execStxw .r1 .r2 0 (bytewise .little 0x1001))).map (fun t =>
      (t.mem.get 0x1000, t.mem.get 0x1001, t.mem.get 0x1002, t.mem.get 0x1003, t.mem.get 0x1004, t.mem.get 0x1005)) =
      some (some 0x88, some 0x18, some 0x17, some 0x16, some 0x15, some 0x33) ∧
    (after (execSth .r1 0 0x1234 (bytewise .big 0x100d))).map (fun t =>
      (t.mem.get 0x100c, t.mem.get 0x100d, t.mem.get 0x100e, t.mem.get 0x100f)) =
      some (some 0xfc, some 0x12, some 0x34, some 0xff) := by decide

/-- BytewiseAccess, loads and stores that are made: for each width the first and the last misaligned address whose bytes
are all in a region with every right; base and value written. -/
theorem test_witness_BytewiseAccess : ∀ n ∈ [2, 4, 8], ∀ base ∈ [0x1001, 0x100f - n],
    (bytewise .little (BitVec.ofNat 64 base)).reg .r1 = .written (BitVec.ofNat 64 base) ∧
    (bytewise .little (BitVec.ofNat 64 base)).reg .r2 = .written 0x1112131415161718 ∧
    (bytewise .little (BitVec.ofNat 64 base)).params.strictAlignment = false ∧
    (bytewise .little (BitVec.ofNat 64 base)).params.regions = [sampleRegion] ∧
    sampleRegion.readable = true ∧ sampleRegion.writable = true ∧
    (BitVec.ofNat 64 base + (0 : Offset).signExtend 64 : Word).toNat % n ≠ 0 ∧
    (∀ k < n, (BitVec.ofNat 64 base + (0 : Offset).signExtend 64 : Word).toNat + k < 2 ^ 64 ∧
      0x1000 ≤ base + k ∧ base + k < 0x1000 + 16) := by decide

/-- BytewiseAccess, the fault: a load and a store whose last byte is the first that is not admitted, and whose first byte
is. -/
theorem test_witness_BytewiseAccess_fault : ∀ i ∈ [Instr.ldxw .r3 .r1 0, .stxw .r1 .r2 0], ∀ base ∈ [0x100d, 0x1011],
    (memoryAccess i).map (fun acc => (acc.base, acc.off, acc.size, decide (acc.kind = .atomic))) =
      some (.r1, 0, 4, false) ∧
    (∀ r ∈ readRegs (bytewise .little (BitVec.ofNat 64 base)) i,
      (bytewise .little (BitVec.ofNat 64 base)).reg r ≠ .unwritten) ∧
    (BitVec.ofNat 64 base + (0 : Offset).signExtend 64 : Word).toNat % 4 ≠ 0 ∧
    (∀ k ∈ [0x1010 - base], (∀ j < k, 0x1000 ≤ base + j ∧ base + j < 0x1000 + 16) ∧
      ¬(base + k < 0x1000 + 16)) ∧
    (after (exec i (bytewise .little (BitVec.ofNat 64 base)))).map (fun t => t.status) =
      some (.faulted (.memFault (BitVec.ofNat 64 (max base 0x1010)) 1
        (if i = .ldxw .r3 .r1 0 then .read else .write)) 0) := by decide

/-- AddressResult, UnresolvedAddressFault: a map with a value area, one without, an argument no table has. -/
theorem test_witness_addresses :
    lookup platform.params.mapByFd 7 = some 0x2000 ∧ lookup platform.params.mapVal 0x2000 = some 0x2100 ∧
    lookup platform.params.mapByFd 8 = some 0x3000 ∧ lookup platform.params.mapVal 0x3000 = none ∧
    lookup platform.params.mapByIdx 7 = some 0x2000 ∧ lookup platform.params.mapByIdx 6 = none ∧
    lookup platform.params.varAddr 7 = some 0x4000 ∧ lookup platform.params.varAddr 6 = none ∧
    lookup platform.params.codeAddr (platform.pc, 7) = some 0x5000 ∧
    lookup platform.params.codeAddr (platform.pc, 6) = none := by decide

/-- LegacyPacketStops: `packet` in `GROUPS` and not. -/
theorem test_witness_LegacyPacketStops :
    (withParams platform fun p => { p with groups := { p.groups with packet := true } }).params.groups.packet = true ∧
    platform.params.groups.packet = false := by decide

/-- UnwrittenReadFault: the second register read is unwritten and the first is not; all read are written. -/
theorem test_witness_UnwrittenReadFault :
    readRegs (deep 0) (.add64X .r1 .r2) = [.r1] ++ .r2 :: [] ∧ (∀ q ∈ [Reg.r1], (deep 0).reg q ≠ .unwritten) ∧
    (deep 0).reg .r2 = .unwritten ∧ (deep 0).status = .running ∧
    (∀ q ∈ readRegs (deep 0) (.add64X .r1 .r3), (deep 0).reg q ≠ .unwritten) ∧
    (after (exec (.add64X .r1 .r3) (deep 0))).isSome = true := by decide

/-- StepRunsDecodedInstruction: a running state at the last slot of its program. -/
theorem test_witness_StepRunsDecodedInstruction :
    let s := { running [0x95, 0x00000001000001b7] with pc := 1 }
    s.status = .running ∧ 0 ≤ s.pc ∧ s.pc < s.params.program.length ∧
    inSecondSlots false s.params.program s.pc.toNat = false ∧
    decode s.params.hostEndian s.params.strictUnused (s.params.program.drop s.pc.toNat) = .ok (.mov64K .r1 1) ∧
    wellFormed s.params (.mov64K .r1 1) = true := by decide

/-- PcOutOfRangeFault: just before the first slot and just past the last. -/
theorem test_witness_PcOutOfRangeFault :
    (running [0x95]).status = .running ∧ ({ running [0x95] with pc := -1 } : State).pc < 0 ∧
    ({ running [0x95] with pc := 1 } : State).pc ≥ ({ running [0x95] with pc := 1 } : State).params.program.length := by
  decide

/-- JumpIntoWideFault: the second slot of a wide instruction in the last slot. -/
theorem test_witness_JumpIntoWideFault :
    let s := { running [0x118, 0] with pc := 1 }
    s.status = .running ∧ 0 ≤ s.pc ∧ s.pc < s.params.program.length ∧
    inSecondSlots false s.params.program s.pc.toNat = true := by decide

/-- UnsupportedGroupIllegal: slots that do not decode, and an instruction of a group that is not supported. -/
theorem test_witness_UnsupportedGroupIllegal :
    let s := running [0]
    let u := running [0x20]
    s.status = .running ∧ 0 ≤ s.pc ∧ s.pc < s.params.program.length ∧
    inSecondSlots false s.params.program s.pc.toNat = false ∧
    decode s.params.hostEndian s.params.strictUnused (s.params.program.drop s.pc.toNat) = .error .reservedOpcode ∧
    u.status = .running ∧ u.pc < u.params.program.length ∧
    inSecondSlots false u.params.program u.pc.toNat = false ∧
    decode u.params.hostEndian u.params.strictUnused (u.params.program.drop u.pc.toNat) = .ok (.ldabsw 0) ∧
    u.params.groups.has (groupOf (.ldabsw 0)) = false := by decide

/-- FramePointerWriteIllegal: a destination R10, a fetching atomic with source R10, and `FP_READONLY` false. -/
theorem test_witness_FramePointerWriteIllegal :
    let s := running [0xab7]
    let u := running [0x000000010100a1db]
    s.params.fpReadonly = true ∧ s.status = .running ∧ 0 ≤ s.pc ∧ s.pc < s.params.program.length ∧
    inSecondSlots false s.params.program s.pc.toNat = false ∧
    decode s.params.hostEndian s.params.strictUnused (s.params.program.drop s.pc.toNat) = .ok (.mov64K .r10 0) ∧
    writtenReg (.mov64K .r10 0) = some .r10 ∧ u.params.fpReadonly = true ∧
    decode u.params.hostEndian u.params.strictUnused (u.params.program.drop u.pc.toNat) =
      .ok (.aadd64Fetch .r1 .r10 0x100) ∧
    writtenReg (.aadd64Fetch .r1 .r10 0x100) = some .r10 ∧
    (withParams s fun p => { p with fpReadonly := false }).params.fpReadonly = false := by decide

/-- RunStatus: a running state, an exited one, a faulted one. -/
theorem test_witness_RunStatus :
    (running [0x95]).status = .running ∧ ({ running [] with status := .exited 3 } : State).status ≠ .running ∧
    ({ running [] with status := .faulted .jumpIntoWide 1 } : State).status ≠ .running := by decide

/-- FaultChangesOnlyStatus: an instruction that faults, a step that faults, a state that has. -/
theorem test_witness_FaultChangesOnlyStatus :
    (deep 0).status = .running ∧ (after (exec (.add64X .r1 .r2) (deep 0))).map (fun t => t.status) =
      some (.faulted (.uninitRegister .r2) 0) ∧
    (running []).status = .running ∧ (after (step (running []))).map (fun t => t.status) =
      some (.faulted (.pcOutOfRange 0) 0) ∧
    ({ running [] with status := .faulted .jumpIntoWide 1 } : State).status = .faulted .jumpIntoWide 1 := by decide

/-- The frames (RegisterFrame, MemoryFrame, OtherStateFrame): next states of an instruction that only jumps, a helper
call, a program-local call, `EXIT`, a load, a store and a fetching atomic. -/
theorem test_witness_frames :
    (after (exec (.ja 3) platform)).isSome = true ∧ (after (exec (.callHelper 2) platform)).isSome = true ∧
    (after (exec (.callLocal 1) platform)).isSome = true ∧ (after (exec .exit platform)).isSome = true ∧
    platform.frames = [] ∧
    ([.ldxw .r2 .r1 0, .stxdw .r1 .r2 8, .aadd32Fetch .r1 .r2 4] : List Instr).all (fun i =>
      decide ((after (exec i (sample .little 0x1000 3))).map (fun t => t.status) = some .running)) = true ∧
    (sample .little 0x1000 3).reg .r1 = .written 0x1000 ∧ (sample .little 0x1000 3).status = .running ∧
    memoryAccess (.ldxw .r2 .r1 0) = some ⟨.r1, 0, 4, .read⟩ ∧
    memoryAccess (.stxdw .r1 .r2 8) = some ⟨.r1, 8, 8, .write⟩ ∧
    (effectiveAddress 0x1000 8).toNat + 8 ≤ 0x1010 ∧ 0x1007 < (effectiveAddress 0x1000 8).toNat := by decide

/-- InvariantKept: a state at depth 1 that meets the invariant and has a next state. -/
theorem test_witness_InvariantKept : Inv (deep 1) ∧ (after (step (deep 1))).isSome = true := by
  refine ⟨⟨by decide, ?_, by decide, by decide⟩, by decide⟩
  intro limit h
  have h8 : (some 8 : Option Nat) = some limit := h
  injection h8 with h8
  subst h8
  decide

/-- InvariantAtEntry: well-formed parameters, with a launch image. -/
theorem test_witness_InvariantAtEntry :
    wellFormedParams (sampleParams .big) = true ∧ (sampleParams .big).regions = [sampleRegion] := by decide

/-- FramePointerKept: the reset parameters and registers; and a state at depth 1 that meets the invariant. -/
theorem test_witness_FramePointerKept :
    defaultParams.fpReadonly = true ∧ defaultParams.framePolicy = .linux ∧
    (defaultEntryRegs defaultParams).r10 = .written (defaultParams.frameTop 0) ∧
    FramePointerInv { deep 1 with
      frames := [{ ret := 1, saved := some ⟨.unwritten, .unwritten, .unwritten, .unwritten, .written 0x8000⟩ }]
      regs := { (deep 1).regs with r10 := .written 0x7e00 } } := by
  refine ⟨by decide, by decide, by decide, by decide, by decide, by decide, ⟨_, rfl, ?_⟩, trivial⟩
  decide

/-- WritesStayInRegions: a store, fetched, whose step changes a byte. -/
theorem test_witness_WritesStayInRegions :
    let s := { running [0x217b] with regs := (sample .little 0x1000 3).regs }
    s.fetch = .ok (.stxdw .r1 .r2 0) ∧
    (after (step s)).map (fun t => t.mem.get 0x1000) = some (some 3) ∧ s.mem.get 0x1000 = some 0x88 := by decide

/-- DecodeSound: slots that decode. -/
theorem test_witness_DecodeSound :
    decode .big true [0x4433221100001007, 0x95] = .ok (.add64K .r1 0x11223344) := by decide

/-- ReservedOpcodes: an opcode byte that is no instruction's. -/
theorem test_witness_ReservedOpcodes : ∀ i : Instr, (encodeFields i).opcode ≠ 0x00 := by
  intro i
  cases i <;> simp [encodeFields, fieldsK, fieldsX, fieldsNone, fieldsDst, fieldsSrc, fieldsBoth, fieldsWide]

/-- MixedWidthAccess: eight bytes at the end of the address space, in no shared region. -/
theorem test_witness_MixedWidthAccess :
    (0xfffffffffffffff8 : Word).toNat + 8 ≤ 2 ^ 64 ∧
    (∀ k < 8, (sample .little 5 3).isShared ((0xfffffffffffffff8 : Word).toNat + k) = false) := by decide

/-- OracleIndependence: a load, fetched, of the last bytes below a shared region; a step that is no helper call and has a
next state. -/
theorem test_witness_OracleIndependence :
    let r := { sampleRegion with base := 0x1010, sharing := .shared, init := none }
    let s := withParams (running [0x1379]) fun p => { p with regions := [sampleRegion, r] }
    let s := { s with regs := { s.regs with r1 := .written 0x1008 } }
    s.fetch = .ok (.ldxdw .r3 .r1 0) ∧ memoryAccess (.ldxdw .r3 .r1 0) = some ⟨.r1, 0, 8, .read⟩ ∧
    s.reg .r1 = .written 0x1008 ∧ s.params.regions = [sampleRegion, r] ∧ r.sharing = .shared ∧
    (∀ k < 8, ¬(r.base.toNat ≤ ((0x1008 : Word) + (0 : Offset).signExtend 64).toNat + k)) ∧
    (after (step s)).map (fun t => (t.reg .r3, t.draws)) = some (.written 0xfffefdfcfbfaf9f8, 8) := by decide

/-- DecodeLenient: words with every unused field filled decode; a reserved selecting value, a register above 10, a
missing second slot and a reserved half that is not zero do not. -/
theorem test_witness_DecodeLenient :
    decode .little false [0xdeadbeef1234ff95] = .ok .exit ∧
    decode .big false [0xefbeadde0000213f] = .ok (.div64X .r2 .r1) ∧
    decode .little false [0x0000000712341118, 0xffffffff00000000] = .ok (.ldMapFd .r1 7) ∧
    decode .little true [0x0000000712341118, 0xffffffff00000000] = .error .unusedFieldNotZero ∧
    decode .little false [0x000000010002ff37] = .error .reservedSelector ∧
    decode .little false [0xdeadbeef0000b10f] = .error .badRegister ∧
    decode .little false [0x0000000712341118] = .error .missingSecondSlot ∧
    decode .little false [0x0000000712341118, 0xffffffff00010000] = .error .reservedHalfNotZero := by decide

end Sys2Proof.Tests
end

section
/-!
PROOF. The byte swaps byte by byte (O11): the bytes of a word, the two ways a swap rearranges them (`lowBytes`,
`reverseBytes`), and which of the two each instruction takes on each host.
-/

namespace Sys2Proof.Machine

/-! ### The bytes of a word -/

/-- The model lists a word's bytes by division; they are its 8-bit fields. -/
theorem bytesOf_toNat (n : Nat) (v : Word) :
    bytesOf n v.toNat = (List.range n).map fun k => v.extractLsb' (8 * k) 8 := by
  refine List.ext_getElem (by simp) fun k hk _ => ?_
  have hpow : 256 ^ k = 2 ^ (8 * k) := by rw [Nat.pow_mul]
  rw [bytesOf_getElem, List.getElem_map, List.getElem_range, BitVec.extractLsb', Nat.shiftRight_eq_div_pow, hpow]

/-- A byte appended below a bit vector is the next less significant digit of the number. -/
theorem toNat_append_byte {w : Nat} (x : BitVec w) (b : Byte) : (x ++ b).toNat = b.toNat + 256 * x.toNat := by
  rw [BitVec.toNat_append, ← Nat.shiftLeft_add_eq_or_of_lt b.isLt, Nat.shiftLeft_eq]
  omega

/-- Appending a byte below a bit vector puts it in front of the list of its bytes. -/
theorem ofBytes_cons_eq_append {w : Nat} {x : BitVec w} {bs : List Byte} (h : ofBytes bs = x.toNat) (b : Byte) :
    ofBytes (b :: bs) = (x ++ b).toNat := by
  rw [ofBytes, h, toNat_append_byte]

/-! ### The low bytes, kept and reversed -/

theorem lowBytes_eq_setWidth (n : Nat) (v : Word) : lowBytes n v = (v.setWidth (8 * n)).setWidth 64 := by
  rw [lowBytes, show 256 ^ n = 2 ^ (8 * n) by rw [Nat.pow_mul], ← BitVec.toNat_setWidth, BitVec.ofNat_toNat]

theorem lowBytes_eight (v : Word) : lowBytes 8 v = v := by
  rw [lowBytes_eq_setWidth, BitVec.setWidth_eq, BitVec.setWidth_eq]

/-- A bit vector whose number the reversed bytes make is, zero-extended, the reversal. -/
theorem reverseBytes_eq_setWidth {n w : Nat} {v : Word} {x : BitVec w}
    (h : ofBytes ((List.range n).map fun k => v.extractLsb' (8 * k) 8).reverse = x.toNat) :
    reverseBytes n v = x.setWidth 64 := by
  rw [reverseBytes, bytesOf_toNat, h, BitVec.ofNat_toNat]

theorem ofBytes_singleton (b : Byte) : ofBytes [b] = b.toNat := by
  simp [ofBytes]

section
variable (v : Word)

theorem reverseBytes_two :
    reverseBytes 2 v = (v.extractLsb' 0 8 ++ v.extractLsb' 8 8 : BitVec 16).setWidth 64 :=
  reverseBytes_eq_setWidth (ofBytes_cons_eq_append (ofBytes_singleton _) _)

theorem reverseBytes_four :
    reverseBytes 4 v = (v.extractLsb' 0 8 ++ v.extractLsb' 8 8 ++ v.extractLsb' 16 8 ++ v.extractLsb' 24 8 :
      BitVec 32).setWidth 64 :=
  reverseBytes_eq_setWidth <| ofBytes_cons_eq_append (ofBytes_cons_eq_append (ofBytes_cons_eq_append
    (ofBytes_singleton _) _) _) _

theorem reverseBytes_eight :
    reverseBytes 8 v = v.extractLsb' 0 8 ++ v.extractLsb' 8 8 ++ v.extractLsb' 16 8 ++ v.extractLsb' 24 8 ++
      v.extractLsb' 32 8 ++ v.extractLsb' 40 8 ++ v.extractLsb' 48 8 ++ v.extractLsb' 56 8 := by
  rw [reverseBytes_eq_setWidth (n := 8) <| ofBytes_cons_eq_append (ofBytes_cons_eq_append (ofBytes_cons_eq_append
    (ofBytes_cons_eq_append (ofBytes_cons_eq_append (ofBytes_cons_eq_append (ofBytes_cons_eq_append
      (ofBytes_singleton _) _) _) _) _) _) _) _]
  exact BitVec.setWidth_eq _

end

/-! ### The instructions -/

section
variable {s : State} {dst : Reg} {a v : Word}

/-- The whole next state of a swap whose conversion takes the destination's value to `v`. -/
theorem swapBytes_next (ha : s.reg dst = .written a) {f : Word → Word} (hv : f a = v) :
    swapBytes s dst f = .next { s with regs := s.regs.set dst (.written v), pc := s.pc + 1 } := by
  rw [swapBytes_done ha, hv]
  rfl

/-- The same for a conversion that depends on the byte order of the host (`41_byteswap.md` R202). -/
theorem hostSwap_next (conv : Endian → Nat → Word → Word) (ha : s.reg dst = .written a) {e : Endian}
    (he : s.params.hostEndian = e) {n : Nat} (hv : conv e n a = v) :
    swapBytes s dst (conv s.params.hostEndian n) =
      .next { s with regs := s.regs.set dst (.written v), pc := s.pc + 1 } :=
  swapBytes_next ha (he ▸ hv)

end

/-- Settles O11: each swap is `lowBytes` or `reverseBytes` at its width, chosen by the host alone. -/
theorem byteSwapResult : Obligations.ByteSwapResult := by
  intro s dst a ha
  simp only [List.mem_cons, Prod.mk.injEq, List.not_mem_nil, or_false]
  refine ⟨?bswap, fun he => ?little, fun he => ?big⟩
  case bswap =>
    rintro i v (⟨rfl, rfl⟩ | ⟨rfl, rfl⟩ | ⟨rfl, rfl⟩)
    · exact swapBytes_next ha (reverseBytes_two _)
    · exact swapBytes_next ha (reverseBytes_four _)
    · exact swapBytes_next ha (reverseBytes_eight _)
  case little =>
    rintro i v (⟨rfl, rfl⟩ | ⟨rfl, rfl⟩ | ⟨rfl, rfl⟩ | ⟨rfl, rfl⟩ | ⟨rfl, rfl⟩ | ⟨rfl, rfl⟩)
    · exact hostSwap_next toLittle ha he (lowBytes_eq_setWidth 2 _)
    · exact hostSwap_next toLittle ha he (lowBytes_eq_setWidth 4 _)
    · exact hostSwap_next toLittle ha he (lowBytes_eight _)
    · exact hostSwap_next toBig ha he (reverseBytes_two _)
    · exact hostSwap_next toBig ha he (reverseBytes_four _)
    · exact hostSwap_next toBig ha he (reverseBytes_eight _)
  case big =>
    rintro i v (⟨rfl, rfl⟩ | ⟨rfl, rfl⟩ | ⟨rfl, rfl⟩ | ⟨rfl, rfl⟩ | ⟨rfl, rfl⟩ | ⟨rfl, rfl⟩)
    · exact hostSwap_next toLittle ha he (reverseBytes_two _)
    · exact hostSwap_next toLittle ha he (reverseBytes_four _)
    · exact hostSwap_next toLittle ha he (reverseBytes_eight _)
    · exact hostSwap_next toBig ha he (lowBytes_eq_setWidth 2 _)
    · exact hostSwap_next toBig ha he (lowBytes_eq_setWidth 4 _)
    · exact hostSwap_next toBig ha he (lowBytes_eight _)

end Sys2Proof.Machine
end

section
/-!
PROOF. Call frames (O16, O18, O20) and the invariants that every step keeps (O48, O50): the frame operations and the
effect of every instruction keep `Inv` and `FramePointerInv`.
-/

namespace Sys2Proof.Machine

/-! ### The frame operations -/

theorem State.atMaxDepth_eq_false_iff {s : State} :
    s.atMaxDepth = false ↔ ∀ limit, s.params.maxCallDepth = some limit → s.frames.length < limit := by
  unfold State.atMaxDepth
  cases s.params.maxCallDepth <;> simp

theorem State.pushFrame_linux {s : State} (h : s.params.framePolicy = .linux) (ret : Int) :
    s.pushFrame ret = { s with
      frames := { ret := ret, saved := some s.regs.saved } :: s.frames
      regs := s.regs.enterCallee (s.params.frameTop (s.frames.length + 1)) } := by
  simp only [State.pushFrame, h]

theorem State.pushFrame_controlOnly {s : State} (h : s.params.framePolicy = .controlOnly) (ret : Int) :
    s.pushFrame ret = { s with frames := { ret := ret, saved := none } :: s.frames } := by
  simp only [State.pushFrame, h]

/-- The frame pushed holds the return slot, and saves registers exactly under the `linux` policy. -/
theorem State.pushFrame_frames (s : State) (ret : Int) :
    ∃ f, (s.pushFrame ret).frames = f :: s.frames ∧ f.ret = ret ∧
      f.saved.isSome = decide (s.params.framePolicy = .linux) := by
  cases h : s.params.framePolicy with
  | linux => exact ⟨_, congrArg State.frames (State.pushFrame_linux h ret), rfl, rfl⟩
  | controlOnly => exact ⟨_, congrArg State.frames (State.pushFrame_controlOnly h ret), rfl, rfl⟩

theorem State.popFrame_saved {s : State} {f : Frame} {sv : SavedRegs} (h : f.saved = some sv) (rest : List Frame) :
    s.popFrame f rest = { s with frames := rest, regs := s.regs.leaveCallee sv } := by
  simp only [State.popFrame, h]

/-- A return leaves R0, the callee's result (`42_jump.md` R277). -/
@[simp] theorem State.popFrame_reg_r0 (s : State) (f : Frame) (rest : List Frame) :
    (s.popFrame f rest).reg .r0 = s.reg .r0 := by
  unfold State.popFrame
  split <;> rfl

/-! ### CALL_LOCAL and EXIT -/

theorem exec_callLocal_below {s : State} (imm : Word32) (h : s.atMaxDepth = false) :
    exec (.callLocal imm) s = .next ((s.pushFrame (s.pc + 1)).jumpTo (jumpTarget s.pc imm.toInt)) :=
  if_neg (by simp [h])

theorem exec_exit_empty {s : State} (h : s.frames = []) :
    exec .exit s = withReg s .r0 fun v => .next { s with status := .exited v } := by
  change exitFrame s = _
  simp only [exitFrame, h]

theorem exec_exit_frame {s : State} {f : Frame} {rest : List Frame} (h : s.frames = f :: rest) :
    exec .exit s = .next ((s.popFrame f rest).jumpTo f.ret) := by
  change exitFrame s = _
  simp only [exitFrame, h]

/-- Settles O16: the frame and the registers are those of the policy's case of `pushFrame`. -/
theorem callLocalResult : Obligations.CallLocalResult := by
  intro s imm hd
  rw [exec_callLocal_below imm (State.atMaxDepth_eq_false_iff.mpr hd)]
  constructor
  · intro h
    rw [State.pushFrame_linux h]
    rfl
  · intro h
    rw [State.pushFrame_controlOnly h]
    rfl

/-- Settles O18: with no frame, `EXIT` reads R0 and ends the run. -/
theorem exitEndsRun : Obligations.ExitEndsRun := by
  intro s v hf hv
  rw [exec_exit_empty hf, withReg_written hv]

/-- Settles O20: the frame that `pushFrame` left is the one that `popFrame` takes. -/
theorem callThenReturn : Obligations.CallThenReturn := by
  intro s imm hp hd
  refine ⟨_, exec_callLocal_below imm (State.atMaxDepth_eq_false_iff.mpr hd), fun u hu => ?_⟩
  rw [State.pushFrame_linux hp] at hu
  refine ⟨_, exec_exit_frame hu, ?_⟩
  rw [State.popFrame_saved rfl]
  refine ⟨rfl, rfl, rfl, rfl, rfl, rfl, rfl, rfl, ?_, rfl, rfl, rfl⟩
  intro r hr
  fin_cases hr <;> rfl

end Sys2Proof.Machine

namespace Sys2Proof

open Sys2Proof.Machine

/-! ### The machine's invariant -/

/-- The invariant is about memory, frames and parameters alone. -/
theorem Inv.of_frames_eq {s t : State} (h : Inv s) (hm : t.mem.wf = true) (hf : t.frames = s.frames)
    (hp : t.params = s.params) : Inv t where
  memory := hm
  depth := by rw [hf, hp]; exact h.depth
  saved := by rw [hf, hp]; exact h.saved
  returns := by rw [hf, hp]; exact h.returns

/-- A call below the largest depth, from a slot of the program. -/
theorem Inv.pushFrame {s : State} (h : Inv s) (hd : s.atMaxDepth = false) (h0 : 0 ≤ s.pc)
    (hlt : s.pc < s.params.program.length) : Inv (s.pushFrame (s.pc + 1)) := by
  obtain ⟨f, hf, hret, hsaved⟩ := s.pushFrame_frames (s.pc + 1)
  refine ⟨by simpa using h.memory, fun limit hl => ?depth, ?saved, ?returns⟩
  case depth =>
    have hlen := State.atMaxDepth_eq_false_iff.mp hd limit (by simpa using hl)
    rw [hf, List.length_cons]
    omega
  case saved =>
    simpa only [hf, State.pushFrame_params, List.forall_mem_cons] using ⟨hsaved, h.saved⟩
  case returns =>
    simp only [hf, State.pushFrame_params, List.forall_mem_cons]
    exact ⟨by omega, h.returns⟩

theorem Inv.popFrame {s : State} (h : Inv s) {f : Frame} {rest : List Frame} (hf : s.frames = f :: rest) :
    Inv (s.popFrame f rest) := by
  obtain ⟨hmem, hdepth, hsaved, hreturns⟩ := h
  rw [hf] at hdepth hsaved hreturns
  constructor <;> simp only [State.popFrame_mem, State.popFrame_frames, State.popFrame_params]
  · exact hmem
  · exact fun limit hl => Nat.le_of_succ_le (hdepth limit hl)
  · exact (List.forall_mem_cons.mp hsaved).2
  · exact (List.forall_mem_cons.mp hreturns).2

/-- Bytes stored where the access is admitted keep the invariant. -/
theorem Inv.mem_stored {s : State} (h : Inv s) {ea : Word} {n : Nat} (v : Word) (hb : ea.toNat + n ≤ 2 ^ 64) :
    (s.stored ea n v).mem.wf = true :=
  Memory.wf_setBytes _ h.memory (by simpa using hb)

/-- Whatever an instruction at a slot of the program does keeps the invariant. -/
theorem Inv.of_effect {s t : State} {i : Instr} (h : Inv s) (h0 : 0 ≤ s.pc) (hlt : s.pc < s.params.program.length)
    (he : Effect i s t) : Inv t := by
  cases he with
  | raised | wrote | jumped | ended => exact h.of_frames_eq h.memory rfl rfl
  | stored acc base v _ _ _ _ hf => exact h.of_frames_eq (h.mem_stored v (State.plainFault_bound hf)) rfl rfl
  | updated acc base v _ _ _ _ hf => exact h.of_frames_eq (h.mem_stored v (State.atomicFault_bound hf)) rfl rfl
  | fetched acc base v _ _ _ _ _ _ hf => exact h.of_frames_eq (h.mem_stored v (State.atomicFault_bound hf)) rfl rfl
  | helped ans _ => exact h.of_frames_eq (Memory.wf_setAll _ h.memory) rfl rfl
  | called imm _ hd =>
    have hi := h.pushFrame hd h0 hlt
    exact hi.of_frames_eq hi.memory rfl rfl
  | returned f rest _ hf =>
    have hi := h.popFrame hf
    exact hi.of_frames_eq hi.memory rfl rfl

/-- Settles O48: a fault of the fetch changes the status alone; a fetched instruction stands at a slot of the
program. -/
theorem invariantKept : Obligations.InvariantKept := by
  intro s t h hs
  obtain ⟨_, ⟨c, _, rfl⟩ | ⟨i, hi, hx⟩⟩ := step_cases hs
  · exact h.of_frames_eq h.memory rfl rfl
  · obtain ⟨h0, hlt, _⟩ := State.fetch_ok hi
    exact h.of_effect h0 hlt (exec_effect hx)

/-! ### The frame pointer -/

/-- The frame pointer's invariant is about R10, frames and parameters alone. -/
theorem FramePointerInv.of_frames_eq {s t : State} (h : FramePointerInv s) (hr : t.reg .r10 = s.reg .r10)
    (hf : t.frames = s.frames) (hp : t.params = s.params) : FramePointerInv t where
  readonly := by rw [hp]; exact h.readonly
  policy := by rw [hp]; exact h.policy
  current := by rw [hf, hp]; exact Eq.trans hr h.current
  saved := by rw [hf, hp]; exact h.saved

/-- The frame pushed saves R10, the frame pointer of the caller's depth. -/
theorem FramePointerInv.pushFrame {s : State} (h : FramePointerInv s) (ret : Int) :
    FramePointerInv (s.pushFrame ret) := by
  rw [State.pushFrame_linux h.policy]
  exact ⟨h.readonly, h.policy, rfl, ⟨_, rfl, h.current⟩, h.saved⟩

/-- The frame popped gives R10 back as the frame pointer of the caller's depth. -/
theorem FramePointerInv.popFrame {s : State} (h : FramePointerInv s) {f : Frame} {rest : List Frame}
    (hf : s.frames = f :: rest) : FramePointerInv (s.popFrame f rest) := by
  have hs := h.saved
  rw [hf] at hs
  obtain ⟨⟨sv, hsv, htop⟩, hrest⟩ := hs
  rw [State.popFrame_saved hsv]
  exact ⟨h.readonly, h.policy, htop, hrest⟩

/-- Whatever an instruction that does not write R10 as its result does keeps the frame pointer. -/
theorem FramePointerInv.of_effect {s t : State} {i : Instr} (h : FramePointerInv s)
    (hw : writtenReg i ≠ some .r10) (he : Effect i s t) : FramePointerInv t := by
  cases he with
  | raised | jumped | stored | updated | helped | ended => exact h.of_frames_eq rfl rfl rfl
  | wrote r v n hr | fetched _ _ _ v r _ _ _ hr =>
    have hne : Reg.r10 ≠ r := fun heq => hw (heq ▸ hr)
    exact h.of_frames_eq (Regs.get_set_ne _ _ hne) rfl rfl
  | called imm _ _ => exact (h.pushFrame _).of_frames_eq rfl rfl rfl
  | returned f rest _ hf => exact (h.popFrame hf).of_frames_eq rfl rfl rfl

/-- A legal instruction does not write R10 under `FP_READONLY` (`30_encoding.md` R86). -/
theorem writtenReg_ne_r10_of_legal {p : Params} {i : Instr} (hro : p.fpReadonly = true) (hl : legal p i = true) :
    writtenReg i ≠ some .r10 := by
  intro h
  simp [legal, writesFramePointer, hro, h] at hl

/-- Settles O50: at entry no frame is saved; a fetched instruction is legal, so only calls and returns move R10. -/
theorem framePointerKept : Obligations.FramePointerKept := by
  refine ⟨fun p g plat hro hpol h10 => ⟨hro, hpol, h10, trivial⟩, fun s t h hs => ?_⟩
  obtain ⟨_, ⟨c, _, rfl⟩ | ⟨i, hi, hx⟩⟩ := step_cases hs
  · exact h.of_frames_eq rfl rfl rfl
  · obtain ⟨_, _, _, _, hlegal⟩ := State.fetch_ok hi
    exact h.of_effect (writtenReg_ne_r10_of_legal h.readonly hlegal) (exec_effect hx)

end Sys2Proof
end

section
/-!
PROOF. The entry state (O1, O49): what the launch lays down in data memory, region by region. The regions are disjoint,
so no later one overwrites the bytes of an earlier one.
-/

namespace Sys2Proof.Machine

/-- What the launch lays down for one region: its `init` bytes, where it is unshared and has them. -/
def Memory.lay (m : Memory) (r : Region) : Memory :=
  match r.sharing, r.init with
  | .unshared, some bytes => m.setBytes r.base.toNat bytes
  | _, _ => m

/-- The region gives address `a` a launch byte. -/
def Region.gives (r : Region) (a : Nat) : Prop :=
  r.sharing = .unshared ∧ r.init ≠ none ∧ r.base.toNat ≤ a ∧ a < r.base.toNat + r.len

theorem launchMemory_eq_foldl (rs : List Region) : launchMemory rs = rs.foldl Memory.lay [] := rfl

theorem Region.fits_init {r : Region} (hf : r.fits = true) {bytes : List Byte} (hb : r.init = some bytes) :
    bytes.length = r.len ∧ r.base.toNat + bytes.length ≤ 2 ^ 64 := by
  simp only [Region.fits, hb, Bool.and_eq_true, decide_eq_true_eq] at hf
  omega

/-- Laying down a region leaves memory as it is, or lays down the `init` bytes that it has. -/
theorem Memory.lay_cases (m : Memory) (r : Region) :
    m.lay r = m ∨
      ∃ bytes, r.sharing = .unshared ∧ r.init = some bytes ∧ m.lay r = m.setBytes r.base.toNat bytes := by
  unfold Memory.lay
  split
  · rename_i bytes hs hb
    exact .inr ⟨bytes, hs, hb, rfl⟩
  · exact .inl rfl

theorem Memory.lay_of_init {r : Region} (m : Memory) (hs : r.sharing = .unshared) {bytes : List Byte}
    (hb : r.init = some bytes) : m.lay r = m.setBytes r.base.toNat bytes := by
  simp only [Memory.lay, hs, hb]

theorem Memory.get_lay_of_not_gives {r : Region} (m : Memory) (hf : r.fits = true) {a : Nat} (ha : ¬ r.gives a) :
    (m.lay r).get a = m.get a := by
  obtain h | ⟨bytes, hs, hb, h⟩ := m.lay_cases r
  · rw [h]
  · obtain ⟨hlen, _⟩ := Region.fits_init hf hb
    have hout : ¬ (r.base.toNat ≤ a ∧ a < r.base.toNat + r.len) := fun hin => ha ⟨hs, by simp [hb], hin⟩
    rw [h, Memory.get_setBytes_outside _ _ _ _ (by omega)]

/-- Laying down regions leaves alone the addresses none of them gives a byte. -/
theorem Memory.get_foldl_lay_of_not_gives (rs : List Region) (m : Memory) (hf : ∀ r ∈ rs, r.fits = true) {a : Nat}
    (ha : ∀ r ∈ rs, ¬ r.gives a) : (rs.foldl Memory.lay m).get a = m.get a := by
  induction rs generalizing m with
  | nil => rfl
  | cons r rs ih =>
    obtain ⟨hfr, hfs⟩ := List.forall_mem_cons.mp hf
    obtain ⟨har, has⟩ := List.forall_mem_cons.mp ha
    rw [List.foldl_cons, ih _ hfs has, Memory.get_lay_of_not_gives m hfr har]

/-- An address of one region is an address of none that is apart from it. -/
theorem Region.not_gives_of_apart {r t : Region} (h : r.apart t = true) {a : Nat}
    (ha : r.base.toNat ≤ a ∧ a < r.base.toNat + r.len) : ¬ t.gives a := by
  rintro ⟨_, _, hlo, hhi⟩
  simp only [Region.apart, Bool.or_eq_true, decide_eq_true_eq] at h
  omega

/-- After disjoint regions are laid down, each holds its launch bytes. -/
theorem Memory.get_foldl_lay_of_init (rs : List Region) (m : Memory) (hf : ∀ r ∈ rs, r.fits = true)
    (hd : regionsApart rs = true) {r : Region} (hr : r ∈ rs) (hs : r.sharing = .unshared) {bytes : List Byte}
    (hb : r.init = some bytes) {k : Nat} (hk : k < bytes.length) :
    (rs.foldl Memory.lay m).get (r.base.toNat + k) = some bytes[k] := by
  induction rs generalizing m with
  | nil => cases hr
  | cons q rs ih =>
    obtain ⟨hfq, hfs⟩ := List.forall_mem_cons.mp hf
    obtain ⟨hq, hds⟩ : rs.all q.apart = true ∧ regionsApart rs = true := by simpa [regionsApart] using hd
    rw [List.foldl_cons]
    obtain rfl | hmem := List.mem_cons.mp hr
    · obtain ⟨hlen, _⟩ := Region.fits_init hfq hb
      have hlater : ∀ t ∈ rs, ¬ t.gives (r.base.toNat + k) := fun t ht =>
        Region.not_gives_of_apart (List.all_eq_true.mp hq t ht) (by omega)
      rw [Memory.get_foldl_lay_of_not_gives rs _ hfs hlater, Memory.lay_of_init m hs hb,
        Memory.get_setBytes_inside _ _ _ _ hk]
    · exact ih _ hfs hds hmem

/-- Laying down regions that fit the address space keeps the canonical form. -/
theorem Memory.wf_foldl_lay (rs : List Region) {m : Memory} (hm : m.wf = true) (hf : ∀ r ∈ rs, r.fits = true) :
    (rs.foldl Memory.lay m).wf = true := by
  induction rs generalizing m with
  | nil => exact hm
  | cons r rs ih =>
    obtain ⟨hfr, hfs⟩ := List.forall_mem_cons.mp hf
    refine ih ?_ hfs
    obtain h | ⟨bytes, _, hb, h⟩ := m.lay_cases r
    · rwa [h]
    · obtain ⟨_, hbound⟩ := Region.fits_init hfr hb
      rw [h]
      exact Memory.wf_setBytes bytes hm hbound

end Sys2Proof.Machine

namespace Sys2Proof

open Sys2Proof.Machine

theorem wellFormedParams_regions {p : Params} (h : wellFormedParams p = true) :
    (∀ r ∈ p.regions, r.fits = true) ∧ regionsApart p.regions = true := by
  simp only [wellFormedParams, Bool.and_eq_true, List.all_eq_true] at h
  obtain ⟨⟨_, hfits⟩, hapart⟩ := h
  exact ⟨hfits, hapart⟩

/-- Settles O1: the fields are those of `State.entry`; memory is the regions laid down one after another. -/
theorem entryState : Obligations.EntryState := by
  intro p g plat hp
  obtain ⟨hfits, hapart⟩ := wellFormedParams_regions hp
  refine ⟨rfl, rfl, rfl, rfl, rfl, rfl, ?inside, ?outside⟩
  case inside =>
    intro r hr hs bytes hb k hk
    exact Memory.get_foldl_lay_of_init p.regions [] hfits hapart hr hs hb hk
  case outside =>
    intro a ha
    exact Memory.get_foldl_lay_of_not_gives p.regions [] hfits fun r hr ⟨hs, hi, hin⟩ => ha r hr hs hi hin

/-- The entry state of well-formed parameters has no frame, and its memory is in canonical form. -/
theorem Inv.entry {p : Params} (g : Regs) (plat : List Byte) (hp : wellFormedParams p = true) :
    Inv (State.entry p g plat) where
  memory := Memory.wf_foldl_lay p.regions rfl (wellFormedParams_regions hp).1
  depth := fun _ _ => Nat.zero_le _
  saved := nofun
  returns := nofun

/-- Settles O49: the parameters of the reset launch are well formed. -/
theorem invariantAtEntry : Obligations.InvariantAtEntry :=
  ⟨fun _ g plat hp => Inv.entry g plat hp, Inv.entry _ _ (by decide)⟩

end Sys2Proof
end

section
/-!
PROOF. What a step does and leaves unchanged: which instruction runs (O38), how the status moves (O43), and the frames
of the registers (O45) and of the other fields (O47), each a case analysis of `Effect`.
-/

namespace Sys2Proof.Machine

/-! ### The fetch and the step -/

/-- The converse of `State.fetch_ok`. -/
theorem State.fetch_of_decode {s : State} {i : Instr} (h0 : 0 ≤ s.pc) (hlt : s.pc < s.params.program.length)
    (hw : inSecondSlots false s.params.program s.pc.toNat = false)
    (hd : decode s.params.hostEndian s.params.strictUnused (s.params.program.drop s.pc.toNat) = .ok i)
    (hl : legal s.params i = true) : s.fetch = .ok i := by
  have hin : ¬ (s.pc < 0 ∨ s.pc ≥ s.params.program.length) := by omega
  simp only [State.fetch, if_neg hin, hw, hd, hl, if_true, if_false, Bool.false_eq_true]

theorem step_of_fetch {s : State} {i : Instr} (hs : s.status = .running) (hf : s.fetch = .ok i) :
    step s = exec i s := by
  simp only [step, hs, hf]

theorem step_of_fetch_error {s : State} {c : Cause} (hs : s.status = .running) (hf : s.fetch = .error c) :
    step s = raise s c := by
  simp only [step, hs, hf]

/-- Settles O38: the premises are those under which the fetch answers the instruction. -/
theorem stepRunsDecodedInstruction : Obligations.StepRunsDecodedInstruction := by
  intro s i hs h0 hlt hw hd hl
  exact step_of_fetch hs (State.fetch_of_decode h0 hlt hw hd hl)

/-! ### The status -/

/-- An instruction leaves the status, takes a fault at its own slot, or is `EXIT` and ends the run with R0. -/
theorem Effect.status_cases {i : Instr} {s t : State} (h : Effect i s t) :
    t.status = s.status ∨ (∃ c, t.status = .faulted c s.pc) ∨
      (∃ v, t.status = .exited v ∧ i = .exit ∧ s.frames = [] ∧ s.reg .r0 = .written v) := by
  cases h with
  | raised c => exact .inr (.inl ⟨c, rfl⟩)
  | ended v hi hf hv => exact .inr (.inr ⟨v, rfl, hi, hf, hv⟩)
  | called | returned => exact .inl (by simp)
  | wrote | jumped | stored | updated | fetched | helped => exact .inl rfl

/-- Settles O43: a running state faults in the fetch or executes, and `exec` always answers a next state. -/
theorem runStatus : Obligations.RunStatus := by
  refine ⟨fun _ _ _ => rfl, fun s hs => ?progress, fun s hs t ht => hs (step_cases ht).1⟩
  case progress =>
    cases hf : s.fetch with
    | error c => exact ⟨_, step_of_fetch_error hs hf, .inr (.inl ⟨c, rfl⟩)⟩
    | ok i =>
      obtain ⟨t, ht⟩ := exec_next i s
      refine ⟨t, (step_of_fetch hs hf).trans ht, ?_⟩
      obtain h | h | ⟨v, hv, rfl, hr⟩ := (exec_effect ht).status_cases
      · exact .inl (h.trans hs)
      · exact .inr (.inl h)
      · exact .inr (.inr ⟨v, hv, rfl, hr⟩)

/-! ### The registers -/

theorem Regs.ext_get {g h : Regs} (heq : ∀ r, g.get r = h.get r) : g = h := by
  obtain ⟨⟩ := g
  obtain ⟨⟩ := h
  simp only [Regs.mk.injEq]
  exact ⟨heq .r0, heq .r1, heq .r2, heq .r3, heq .r4, heq .r5, heq .r6, heq .r7, heq .r8, heq .r9, heq .r10⟩

/-- A helper call leaves R6 to R10 (`42_jump.md` R275). -/
theorem State.helperReturn_reg (s : State) (ans : HelperAnswer) {r : Reg}
    (hr : r ∈ [Reg.r6, .r7, .r8, .r9, .r10]) : (s.helperReturn ans).reg r = s.reg r := by
  fin_cases hr <;> rfl

/-- A program-local call leaves R1 to R5, the arguments (`42_jump.md` R277). -/
theorem State.pushFrame_reg (s : State) (ret : Int) {r : Reg} (hr : r ∈ [Reg.r1, .r2, .r3, .r4, .r5]) :
    (s.pushFrame ret).reg r = s.reg r := by
  unfold State.pushFrame
  split
  · fin_cases hr <;> rfl
  · rfl

/-- An instruction leaves alone every register that is not its own result and that no call or return moves. -/
theorem Effect.reg_eq {i : Instr} {s t : State} (h : Effect i s t) {r : Reg} (hw : writtenReg i ≠ some r)
    (hhelper : (∃ m, i = .callHelper m ∨ i = .callBtf m) → r ∈ [Reg.r6, .r7, .r8, .r9, .r10])
    (hlocal : (∃ m, i = .callLocal m) → r ∈ [Reg.r1, .r2, .r3, .r4, .r5])
    (hexit : i = .exit → s.frames ≠ [] → r = .r0) : t.reg r = s.reg r := by
  cases h with
  | raised | jumped | stored | updated | ended => rfl
  | wrote q v n hq | fetched _ _ _ v q _ _ _ hq =>
    have hne : r ≠ q := fun heq => hw (heq ▸ hq)
    exact Regs.get_set_ne _ _ hne
  | helped ans hi => exact s.helperReturn_reg ans (hhelper hi)
  | called imm hi _ => exact s.pushFrame_reg _ (hlocal ⟨imm, hi⟩)
  | returned f rest hi hf =>
    obtain rfl := hexit hi (by simp [hf])
    exact s.popFrame_reg_r0 f rest

/-- Settles O45: `Effect.reg_eq` for each kind of instruction. -/
theorem registerFrame : Obligations.RegisterFrame := by
  intro s t i h
  have he := exec_effect h
  refine ⟨fun hcalls hexit r hw => ?plain, ?helper, ?call, ?exit⟩
  case plain =>
    refine he.reg_eq hw ?_ ?_ fun hi => absurd hi hexit
    · rintro ⟨m, hm⟩
      obtain ⟨hhelper, hbtf, _⟩ := hcalls m
      exact (hm.elim hhelper hbtf).elim
    · rintro ⟨m, hm⟩
      obtain ⟨_, _, hlocal⟩ := hcalls m
      exact absurd hm hlocal
  case helper =>
    rintro ⟨m, rfl | rfl⟩ r hr <;> exact he.reg_eq nofun (fun _ => hr) nofun nofun
  case call =>
    rintro ⟨m, rfl⟩ r hr
    exact he.reg_eq nofun nofun (fun _ => hr) nofun
  case exit =>
    rintro rfl
    refine ⟨he.reg_eq nofun nofun nofun fun _ _ => rfl, fun hf => Regs.ext_get fun r => ?_⟩
    exact he.reg_eq nofun nofun nofun fun _ hne => absurd hf hne

/-! ### The other fields -/

theorem Effect.params_eq {i : Instr} {s t : State} (h : Effect i s t) : t.params = s.params := by
  cases h with
  | called | returned => simp
  | raised | wrote | jumped | stored | updated | fetched | helped | ended => rfl

theorem Effect.plat_eq {i : Instr} {s t : State} (h : Effect i s t)
    (hi : ∀ m, i ≠ .callHelper m ∧ i ≠ .callBtf m) : t.plat = s.plat := by
  cases h with
  | called | returned => simp
  | helped ans hh =>
    obtain ⟨m, hm⟩ := hh
    obtain ⟨hhelper, hbtf⟩ := hi m
    exact (hm.elim hhelper hbtf).elim
  | raised | wrote | jumped | stored | updated | fetched | ended => rfl

theorem Effect.frames_eq {i : Instr} {s t : State} (h : Effect i s t) (hl : ∀ m, i ≠ .callLocal m)
    (hx : i ≠ .exit) : t.frames = s.frames := by
  cases h with
  | called imm hi _ => exact absurd hi (hl imm)
  | returned f rest hi _ => exact absurd hi hx
  | raised | wrote | jumped | stored | updated | fetched | helped | ended => rfl

/-- The slots that `slotsOf` counts are those of the encoding. -/
theorem encode_length (e : Endian) (i : Instr) : ((encode e i).length : Int) = slotsOf i := by
  unfold encode slotsOf
  split <;> simp [*]

/-- No wide instruction accesses data memory. -/
theorem slotsOf_of_memoryAccess {i : Instr} {acc : Access} (h : memoryAccess i = some acc) : slotsOf i = 1 := by
  cases i <;> cases h <;> rfl

/-- An instruction with a register result or an access to data memory, and a helper call, goes on to its next slot. -/
theorem Effect.pc_eq {i : Instr} {s t : State} (h : Effect i s t) (ht : t.status = .running)
    (hi : writtenReg i ≠ none ∨ memoryAccess i ≠ none ∨ ∃ m, i = .callHelper m ∨ i = .callBtf m) :
    t.pc = s.pc + slotsOf i := by
  cases h with
  | raised | ended => cases ht
  | wrote => rfl
  | jumped t hw hm _ _ _ hc hb =>
    obtain h | h | ⟨m, h | h⟩ := hi
    · exact absurd hw h
    · exact absurd hm h
    · exact absurd h (hc m)
    · exact absurd h (hb m)
  | stored _ _ _ ha | updated _ _ _ ha | fetched _ _ _ _ _ ha =>
    rw [slotsOf_of_memoryAccess ha]
    rfl
  | helped ans hh => obtain ⟨m, rfl | rfl⟩ := hh <;> rfl
  | called imm hl _ =>
    subst hl
    simp [writtenReg, memoryAccess] at hi
  | returned f rest hx _ =>
    subst hx
    simp [writtenReg, memoryAccess] at hi

/-- Settles O47: a frame lemma of `Effect` for each field; the slots are counted as the encoder lays them out. -/
theorem otherStateFrame : Obligations.OtherStateFrame := by
  intro s t i h
  have he := exec_effect h
  refine ⟨he.params_eq, he.plat_eq, he.frames_eq, fun _ ht hi => ?_⟩
  rw [encode_length, he.pc_eq ht hi]

end Sys2Proof.Machine
end

section
/-!
PROOF. The bytes a read supplies (O25), and that a step which reads no shared byte does not look at the count of oracle
draws (O57): each shared form of a meaning is run from two states that differ in that count alone.
-/

namespace Sys2Proof.Machine

/-! ### Shared bytes -/

theorem State.isShared_eq_true_iff {s : State} {a : Nat} :
    s.isShared a = true ↔
      ∃ r ∈ s.params.regions, r.sharing = .shared ∧ r.base.toNat ≤ a ∧ a < r.base.toNat + r.len := by
  simp [State.isShared, Region.covers]

theorem State.isShared_eq_false_iff {s : State} {a : Nat} :
    s.isShared a = false ↔
      ∀ r ∈ s.params.regions, r.sharing = .shared → ¬(r.base.toNat ≤ a ∧ a < r.base.toNat + r.len) := by
  rw [← Bool.not_eq_true, State.isShared_eq_true_iff]
  simp only [not_exists, not_and]

theorem State.byteAt_shared {s : State} {k a : Nat} (h : s.isShared a = true) :
    s.byteAt k a = Config.sharedByte (s.draws + k) := by
  simp only [State.byteAt, h, if_true]

theorem State.byteAt_unshared {s : State} {k a : Nat} (h : s.isShared a = false) :
    s.byteAt k a = (s.mem.get a).getD (Config.launchByte a) := by
  simp only [State.byteAt, h, if_false, Bool.false_eq_true]

/-- Settles O25: `byteAt` in its two cases. -/
theorem byteRead : Obligations.ByteRead := by
  refine fun s k a => ⟨fun hu => ?unshared, fun hs => State.byteAt_shared (State.isShared_eq_true_iff.mpr hs)⟩
  case unshared =>
    have hf : s.isShared a = false := State.isShared_eq_false_iff.mpr hu
    refine ⟨fun b hb => ?_, fun hn => ?_, fun d j => ?_⟩
    · rw [State.byteAt_unshared hf, hb, Option.getD_some]
    · rw [State.byteAt_unshared hf, hn, Option.getD_none]
    · rw [State.byteAt_unshared hf, State.byteAt_unshared (s := { s with draws := d }) hf]

/-! ### Two runs that differ in the count of draws -/

/-- The same state with another count of draws. -/
def State.withDraws (s : State) (d : Nat) : State := { s with draws := d }

/-- Two outcomes, the second from the state with the count `d`: next states that differ in that count alone, which has
moved on by the same amount. -/
def SameDraws (s : State) (d : Nat) (o o' : Out) : Prop :=
  ∃ n t, o = .next t ∧ t.draws = s.draws + n ∧ o' = .next (t.withDraws (d + n))

section
variable {s : State} {d : Nat}

theorem sameDraws_next {t t' : State} (ht : t.draws = s.draws) (ht' : t' = t.withDraws d) :
    SameDraws s d (.next t) (.next t') :=
  ⟨0, t, rfl, ht, congrArg _ ht'⟩

theorem sameDraws_raise (c : Cause) : SameDraws s d (raise s c) (raise (s.withDraws d) c) :=
  sameDraws_next rfl rfl

theorem sameDraws_withReg (r : Reg) {k k' : Word → Out}
    (hk : ∀ v, s.reg r = .written v → SameDraws s d (k v) (k' v)) :
    SameDraws s d (withReg s r k) (withReg (s.withDraws d) r k') := by
  cases h : s.reg r with
  | written v =>
    rw [withReg_written h, withReg_written (s := s.withDraws d) h]
    exact hk v h
  | unwritten =>
    rw [withReg_unwritten h, withReg_unwritten (s := s.withDraws d) h]
    exact sameDraws_raise _

theorem sameDraws_finish (r : Reg) (v : Word) :
    SameDraws s d (.next (s.finish r v)) (.next ((s.withDraws d).finish r v)) :=
  sameDraws_next rfl rfl

/-! ### Accesses to data memory -/

theorem State.byteFault_withDraws (s : State) (d : Nat) (kind : AccessKind) (a n : Nat) :
    (s.withDraws d).byteFault kind a n = s.byteFault kind a n := by
  induction n generalizing a with
  | zero => rfl
  | succ n ih =>
    simp only [State.byteFault, ih]
    rfl

theorem State.plainFault_withDraws (s : State) (d : Nat) (ea : Word) (n : Nat) (kind : AccessKind) :
    (s.withDraws d).plainFault ea n kind = s.plainFault ea n kind := by
  simp only [State.plainFault, State.byteFault_withDraws]
  rfl

/-- No byte of a read of `n` bytes is in a shared region. -/
def State.Unshared (s : State) (ea : Word) (n : Nat) : Prop := ∀ k < n, s.isShared (ea.toNat + k) = false

theorem sameDraws_memRead {ea : Word} {n : Nat} {dst : Reg} (g : Word → Word) (hu : s.Unshared ea n) :
    SameDraws s d (memRead s ea n fun v t => .next (t.finish dst (g v)))
      (memRead (s.withDraws d) ea n fun v t => .next (t.finish dst (g v))) := by
  cases h : s.plainFault ea n .read with
  | some c =>
    rw [memRead_fault h, memRead_fault ((s.plainFault_withDraws d ea n .read).trans h)]
    exact sameDraws_raise c
  | none =>
    have hv : (s.withDraws d).valueAt ea n = s.valueAt ea n := State.valueAt_draws d hu
    rw [memRead_done h, memRead_done ((s.plainFault_withDraws d ea n .read).trans h), hv]
    exact ⟨n, _, rfl, rfl, rfl⟩

theorem sameDraws_memWrite {ea v : Word} {n : Nat} :
    SameDraws s d (memWrite s ea n v fun t => .next (t.advance 1))
      (memWrite (s.withDraws d) ea n v fun t => .next (t.advance 1)) := by
  cases h : s.plainFault ea n .write with
  | some c =>
    rw [memWrite_fault h, memWrite_fault ((s.plainFault_withDraws d ea n .write).trans h)]
    exact sameDraws_raise c
  | none =>
    rw [memWrite_done h, memWrite_done ((s.plainFault_withDraws d ea n .write).trans h)]
    exact sameDraws_next rfl rfl

/-- An atomic whose continuation makes the same next state but for the count of draws. -/
theorem sameDraws_atomicRMW {ea : Word} {n : Nat} (f : Word → Word) {g : Word → State → State}
    (hu : s.Unshared ea n) (hg : ∀ v t, (g v t).draws = t.draws)
    (hg' : ∀ v t c, g v (t.withDraws c) = (g v t).withDraws c) :
    SameDraws s d (atomicRMW s ea n f fun v t => .next (g v t))
      (atomicRMW (s.withDraws d) ea n f fun v t => .next (g v t)) := by
  have hf : (s.withDraws d).atomicFault ea n = s.atomicFault ea n := rfl
  cases h : s.atomicFault ea n with
  | some c =>
    rw [atomicRMW_fault h, atomicRMW_fault (hf.trans h)]
    exact sameDraws_raise c
  | none =>
    have hv : (s.withDraws d).valueAt ea n = s.valueAt ea n := State.valueAt_draws d hu
    rw [atomicRMW_done h, atomicRMW_done (hf.trans h), hv]
    exact ⟨n, _, rfl, hg _ _, congrArg _ (hg' _ ((s.drawn n).stored ea n _) (d + n))⟩

theorem sameDraws_atomic {ea : Word} {n : Nat} (f : Word → Word) (hu : s.Unshared ea n) :
    SameDraws s d (atomicRMW s ea n f fun _ t => .next (t.advance 1))
      (atomicRMW (s.withDraws d) ea n f fun _ t => .next (t.advance 1)) :=
  sameDraws_atomicRMW f (g := fun _ t => t.advance 1) hu (fun _ _ => rfl) fun _ _ _ => rfl

theorem sameDraws_fetch {ea : Word} {n : Nat} (f old : Word → Word) {r : Reg} (hu : s.Unshared ea n) :
    SameDraws s d (atomicRMW s ea n f fun v t => .next (t.finish r (old v)))
      (atomicRMW (s.withDraws d) ea n f fun v t => .next (t.finish r (old v))) :=
  sameDraws_atomicRMW f (g := fun v t => t.finish r (old v)) hu (fun _ _ => rfl) fun _ _ _ => rfl

/-! ### Jumps, calls and platform addresses -/

theorem sameDraws_branch (off : Offset) (taken : Bool) :
    SameDraws s d (.next (s.branch off taken)) (.next ((s.withDraws d).branch off taken)) :=
  sameDraws_next (by simp) (by cases taken <;> rfl)

theorem sameDraws_loadAddress {dst : Reg} {address address' : Option Word} (h : address' = address) :
    SameDraws s d (loadAddress s dst address) (loadAddress (s.withDraws d) dst address') := by
  subst h
  cases address' with
  | none => exact sameDraws_raise _
  | some v => exact sameDraws_next rfl rfl

theorem mapValue_withDraws (s : State) (d : Nat) (map : Option Word) (nextImm : Word32) :
    mapValue (s.withDraws d) map nextImm = mapValue s map nextImm := by
  cases map <;> rfl

theorem sameDraws_legacyPacket : SameDraws s d (legacyPacket s) (legacyPacket (s.withDraws d)) := by
  have hp : (s.withDraws d).params = s.params := rfl
  unfold legacyPacket
  rw [hp]
  split <;> exact sameDraws_raise _

theorem State.pushFrame_withDraws (s : State) (d : Nat) (ret : Int) :
    (s.withDraws d).pushFrame ret = (s.pushFrame ret).withDraws d := by
  cases h : s.params.framePolicy with
  | linux => rw [State.pushFrame_linux h, State.pushFrame_linux (s := s.withDraws d) h]; rfl
  | controlOnly => rw [State.pushFrame_controlOnly h, State.pushFrame_controlOnly (s := s.withDraws d) h]; rfl

theorem State.popFrame_withDraws (s : State) (d : Nat) (f : Frame) (rest : List Frame) :
    (s.withDraws d).popFrame f rest = (s.popFrame f rest).withDraws d := by
  unfold State.popFrame
  split <;> rfl

theorem sameDraws_callLocal (imm : Word32) :
    SameDraws s d (callLocal imm s) (callLocal imm (s.withDraws d)) := by
  have hd : (s.withDraws d).atMaxDepth = s.atMaxDepth := rfl
  unfold callLocal
  rw [hd, State.pushFrame_withDraws]
  split
  · exact sameDraws_raise _
  · exact sameDraws_next (by simp) rfl

theorem sameDraws_exitFrame : SameDraws s d (exitFrame s) (exitFrame (s.withDraws d)) := by
  cases h : s.frames with
  | nil =>
    have h' : (s.withDraws d).frames = [] := h
    simp only [exitFrame, h, h']
    exact sameDraws_withReg _ fun v _ => sameDraws_next rfl rfl
  | cons f rest =>
    have h' : (s.withDraws d).frames = f :: rest := h
    simp only [exitFrame, h, h', State.popFrame_withDraws]
    exact sameDraws_next (by simp) rfl

end

/-! ### Every instruction -/

/-- No byte that the instruction itself reads, by a load or an atomic, is in a shared region. -/
def ReadsUnshared (i : Instr) (s : State) : Prop :=
  ∀ acc base, memoryAccess i = some acc → acc.kind ≠ .write → s.reg acc.base = .written base →
    s.Unshared (effectiveAddress base acc.off) acc.size

theorem ReadsUnshared.unshared {i : Instr} {s : State} (h : ReadsUnshared i s) {r : Reg} {off : Offset} {n : Nat}
    {kind : AccessKind} {base : Word} (ha : memoryAccess i = some ⟨r, off, n, kind⟩) (hk : kind ≠ .write)
    (hb : s.reg r = .written base) : s.Unshared (effectiveAddress base off) n :=
  h ⟨r, off, n, kind⟩ base ha hk hb

/-- An instruction that is no helper call and reads no shared byte does not look at the count of draws. -/
theorem exec_sameDraws {i : Instr} {s : State} (d : Nat) (hi : ∀ m, i ≠ .callHelper m ∧ i ≠ .callBtf m)
    (hu : ReadsUnshared i s) : SameDraws s d (exec i s) (exec i (s.withDraws d)) := by
  cases i
  case callHelper m => exact absurd rfl (hi m).1
  case callBtf m => exact absurd rfl (hi m).2
  case callLocal => exact sameDraws_callLocal _
  case exit => exact sameDraws_exitFrame
  case ja | ja32 | lddw => exact sameDraws_next rfl rfl
  case mov32K | mov64K => exact sameDraws_finish _ _
  case ldMapFd | ldVarAddr | ldCodeAddr | ldMapIdx => exact sameDraws_loadAddress rfl
  case ldMapValFd | ldMapValIdx => exact sameDraws_loadAddress (mapValue_withDraws _ _ _ _)
  case ldabsw | ldabsh | ldabsb | ldindw | ldindh | ldindb => exact sameDraws_legacyPacket
  case neg32 | neg64 | le16 | le32 | le64 | be16 | be32 | be64 | bswap16 | bswap32 | bswap64
      | mov32X | mov64X | movsx32From8 | movsx32From16 | movsx64From8 | movsx64From16 | movsx64From32
      | add32K | add64K | sub32K | sub64K | mul32K | mul64K | div32K | div64K | sdiv32K | sdiv64K
      | or32K | or64K | and32K | and64K | lsh32K | lsh64K | rsh32K | rsh64K | mod32K | mod64K
      | smod32K | smod64K | xor32K | xor64K | arsh32K | arsh64K =>
    exact sameDraws_withReg _ fun _ _ => sameDraws_finish _ _
  case add32X | add64X | sub32X | sub64X | mul32X | mul64X | div32X | div64X | sdiv32X | sdiv64X
      | or32X | or64X | and32X | and64X | lsh32X | lsh64X | rsh32X | rsh64X | mod32X | mod64X
      | smod32X | smod64X | xor32X | xor64X | arsh32X | arsh64X =>
    exact sameDraws_withReg _ fun _ _ => sameDraws_withReg _ fun _ _ => sameDraws_finish _ _
  case jeq64K | jeq32K | jgt64K | jgt32K | jge64K | jge32K | jset64K | jset32K | jne64K | jne32K
      | jsgt64K | jsgt32K | jsge64K | jsge32K | jlt64K | jlt32K | jle64K | jle32K | jslt64K | jslt32K
      | jsle64K | jsle32K =>
    exact sameDraws_withReg _ fun _ _ => sameDraws_branch _ _
  case jeq64X | jeq32X | jgt64X | jgt32X | jge64X | jge32X | jset64X | jset32X | jne64X | jne32X
      | jsgt64X | jsgt32X | jsge64X | jsge32X | jlt64X | jlt32X | jle64X | jle32X | jslt64X | jslt32X
      | jsle64X | jsle32X =>
    exact sameDraws_withReg _ fun _ _ => sameDraws_withReg _ fun _ _ => sameDraws_branch _ _
  case ldxw | ldxh | ldxb | ldxdw =>
    exact sameDraws_withReg _ fun _ hb => sameDraws_memRead id (hu.unshared rfl nofun hb)
  case ldxsw | ldxsh | ldxsb =>
    exact sameDraws_withReg _ fun _ hb => sameDraws_memRead (signExtendBytes _) (hu.unshared rfl nofun hb)
  case stw | sth | stb | stdw => exact sameDraws_withReg _ fun _ _ => sameDraws_memWrite
  case stxw | stxh | stxb | stxdw =>
    exact sameDraws_withReg _ fun _ _ => sameDraws_withReg _ fun _ _ => sameDraws_memWrite
  case aadd32 | aor32 | aand32 | axor32 | aadd64 | aor64 | aand64 | axor64 =>
    exact sameDraws_withReg _ fun _ hb => sameDraws_withReg _ fun _ _ =>
      sameDraws_atomic _ (hu.unshared rfl nofun hb)
  case aadd32Fetch | aor32Fetch | aand32Fetch | axor32Fetch | axchg32 =>
    exact sameDraws_withReg _ fun _ hb => sameDraws_withReg _ fun _ _ =>
      sameDraws_fetch _ (fun v => zext64 (low32 v)) (hu.unshared rfl nofun hb)
  case aadd64Fetch | aor64Fetch | aand64Fetch | axor64Fetch | axchg64 =>
    exact sameDraws_withReg _ fun _ hb => sameDraws_withReg _ fun _ _ =>
      sameDraws_fetch _ id (hu.unshared rfl nofun hb)
  case acmpxchg32 =>
    exact sameDraws_withReg _ fun _ hb => sameDraws_withReg _ fun _ _ => sameDraws_withReg _ fun _ _ =>
      sameDraws_fetch _ (fun v => zext64 (low32 v)) (hu.unshared rfl nofun hb)
  case acmpxchg64 =>
    exact sameDraws_withReg _ fun _ hb => sameDraws_withReg _ fun _ _ => sameDraws_withReg _ fun _ _ =>
      sameDraws_fetch _ id (hu.unshared rfl nofun hb)

/-- A step that fetches no helper call and no read of a shared byte does not look at the count of draws. -/
theorem step_sameDraws {s : State} (d : Nat) (hs : s.status = .running)
    (hi : ∀ m, s.fetch ≠ .ok (.callHelper m) ∧ s.fetch ≠ .ok (.callBtf m))
    (hu : ∀ i, s.fetch = .ok i → ReadsUnshared i s) : SameDraws s d (step s) (step (s.withDraws d)) := by
  have hfetch : (s.withDraws d).fetch = s.fetch := rfl
  have hs' : (s.withDraws d).status = .running := hs
  cases hf : s.fetch with
  | error c =>
    rw [step_of_fetch_error hs hf, step_of_fetch_error hs' (hfetch.trans hf)]
    exact sameDraws_raise c
  | ok i =>
    rw [step_of_fetch hs hf, step_of_fetch hs' (hfetch.trans hf)]
    exact exec_sameDraws d (fun m => ⟨fun h => (hi m).1 (h ▸ hf), fun h => (hi m).2 (h ▸ hf)⟩) (hu i hf)

/-- Settles O57: the premise on the bytes is `ReadsUnshared`, and the count moves by the same `n` in both runs. -/
theorem oracleIndependence : Obligations.OracleIndependence := by
  intro s t d hi hu ht
  have hreads : ∀ i, s.fetch = .ok i → ReadsUnshared i s := fun i hf acc base ha hk hb k hlt =>
    State.isShared_eq_false_iff.mpr (hu i acc base hf ha hk hb k hlt)
  obtain ⟨hs, _⟩ := step_cases ht
  obtain ⟨n, u, hnext, hdraws, hstep⟩ := step_sameDraws d hs hi hreads
  obtain rfl : u = t := by simpa using hnext.symm.trans ht
  refine ⟨by omega, hstep.trans ?_⟩
  rw [hdraws, Nat.add_sub_cancel_left]
  rfl

end Sys2Proof.Machine
end

section
/-!
PROOF. Where memory changes and which access faults (O51, O46, O28): admission said as a property of the regions, the
fault of an access told by the admission of its bytes, and the one shape in which an instruction changes memory.
-/

namespace Sys2Proof.Machine

/-! ### Admission -/

theorem Region.covers_iff {r : Region} {a n : Nat} :
    r.covers a n = true ↔ r.base.toNat ≤ a ∧ a + n ≤ r.base.toNat + r.len := by
  simp only [Region.covers, Bool.and_eq_true, decide_eq_true_eq]

/-- All kinds but a write need the right to read, all but a read the right to write (`20_memory.md` R45). -/
theorem Region.allows_iff {r : Region} {kind : AccessKind} :
    r.allows kind = true ↔ (kind ≠ .write → r.readable = true) ∧ (kind ≠ .read → r.writable = true) := by
  cases kind <;> simp [Region.allows]

theorem State.admits_iff {s : State} {a n : Nat} {kind : AccessKind} :
    s.admits a n kind = true ↔ a + n ≤ 2 ^ 64 ∧ ∃ r ∈ s.params.regions,
      (r.base.toNat ≤ a ∧ a + n ≤ r.base.toNat + r.len) ∧
        (kind ≠ .write → r.readable = true) ∧ (kind ≠ .read → r.writable = true) := by
  simp only [State.admits, Bool.and_eq_true, decide_eq_true_eq, List.any_eq_true, Region.covers_iff,
    Region.allows_iff]

/-- The region that admits an access admits each of its bytes. -/
theorem State.admits_byte {s : State} {a n k : Nat} {kind : AccessKind} (h : s.admits a n kind = true)
    (hk : k < n) : s.admits (a + k) 1 kind = true := by
  obtain ⟨hbound, r, hr, ⟨hlo, hhi⟩, hright⟩ := State.admits_iff.mp h
  exact State.admits_iff.mpr ⟨by omega, r, hr, ⟨by omega, by omega⟩, hright⟩

/-! ### The fault of an access -/

theorem State.byteFault_none_admits {s : State} {kind : AccessKind} {a n k : Nat}
    (h : s.byteFault kind a n = none) (hk : k < n) : s.admits (a + k) 1 kind = true := by
  induction n generalizing a k with
  | zero => exact absurd hk (Nat.not_lt_zero k)
  | succ n ih =>
    rw [State.byteFault] at h
    split at h
    · rename_i hfirst
      cases k with
      | zero => exact hfirst
      | succ k =>
        rw [← Nat.succ_add_eq_add_succ]
        exact ih h (Nat.lt_of_succ_lt_succ hk)
    · cases h

/-- An aligned plain access is admitted as a whole, a misaligned one byte by byte. -/
theorem State.plainFault_none_admits {s : State} {ea : Word} {n k : Nat} {kind : AccessKind}
    (h : s.plainFault ea n kind = none) (hk : k < n) : s.admits (ea.toNat + k) 1 kind = true := by
  rw [State.plainFault] at h
  split at h
  · split at h
    · rename_i hadm
      exact State.admits_byte hadm hk
    · cases h
  · split at h
    · cases h
    · exact State.byteFault_none_admits h hk

theorem State.atomicFault_none_admits {s : State} {ea : Word} {n k : Nat} (h : s.atomicFault ea n = none)
    (hk : k < n) : s.admits (ea.toNat + k) 1 .atomic = true := by
  rw [State.atomicFault] at h
  split at h
  · split at h
    · rename_i hadm
      exact State.admits_byte hadm hk
    · cases h
  · cases h

theorem State.accessFault_plain {s : State} {ea : Word} {n : Nat} {kind : AccessKind} (hk : kind ≠ .atomic) :
    s.accessFault ea n kind = s.plainFault ea n kind := by
  cases kind with
  | read | write => rfl
  | atomic => exact absurd rfl hk

/-- Each byte of an access that does not fault is admitted with the right of the access's kind. -/
theorem State.accessFault_none_admits {s : State} {ea : Word} {n k : Nat} {kind : AccessKind}
    (h : s.accessFault ea n kind = none) (hk : k < n) : s.admits (ea.toNat + k) 1 kind = true := by
  cases kind with
  | read | write => exact State.plainFault_none_admits h hk
  | atomic => exact State.atomicFault_none_admits h hk

/-- An aligned access that is not admitted raises `MemFault`, whatever its kind. -/
theorem State.accessFault_of_not_admits {s : State} {ea : Word} {n : Nat} {kind : AccessKind}
    (hn : ea.toNat % n = 0) (ha : s.admits ea.toNat n kind = false) :
    s.accessFault ea n kind = some (.memFault ea n kind) := by
  cases kind <;>
    simp only [State.accessFault, State.plainFault, State.atomicFault, hn, ha, if_true, if_false, Bool.false_eq_true]

/-- An instruction whose access faults answers that fault. -/
theorem exec_access_fault {i : Instr} {s : State} {acc : Access} {base : Word} {c : Cause}
    (ha : memoryAccess i = some acc) (hr : AllWritten s (readRegs s i)) (hb : s.reg acc.base = .written base)
    (hf : s.accessFault (effectiveAddress base acc.off) acc.size acc.kind = some c) : exec i s = raise s c := by
  have h := exec_access ha hr hb
  rw [hf] at h
  exact h

/-! ### Where memory changes -/

theorem State.stored_get_outside (s : State) (ea : Word) (n : Nat) (v : Word) {a : Nat}
    (ha : a < ea.toNat ∨ ea.toNat + n ≤ a) : (s.stored ea n v).mem.get a = s.mem.get a :=
  Memory.get_setBytes_outside _ _ _ _ (by simpa using ha)

/-- An instruction leaves memory, is a helper call, or stores the bytes of an access that is no load and that does not
fault. -/
theorem Effect.mem_cases {i : Instr} {s t : State} (h : Effect i s t) :
    t.mem = s.mem ∨ (∃ m, i = .callHelper m ∨ i = .callBtf m) ∨
      ∃ acc base v, memoryAccess i = some acc ∧ acc.kind ≠ .read ∧ s.reg acc.base = .written base ∧
        s.accessFault (effectiveAddress base acc.off) acc.size acc.kind = none ∧
        t.mem = (s.stored (effectiveAddress base acc.off) acc.size v).mem := by
  cases h with
  | raised | wrote | jumped | ended => exact .inl rfl
  | called | returned => exact .inl (by simp)
  | helped ans hi => exact .inr (.inl hi)
  | stored acc base v ha hk hb _ hf =>
    refine .inr (.inr ⟨acc, base, v, ha, by simp [hk], hb, ?_, rfl⟩)
    rwa [hk]
  | updated acc base v ha hk hb _ hf | fetched acc base v _ _ ha hk hb _ hf =>
    refine .inr (.inr ⟨acc, base, v, ha, by simp [hk], hb, ?_, rfl⟩)
    rwa [hk]

theorem not_exists_helperCall {i : Instr} (hi : ∀ m, i ≠ .callHelper m ∧ i ≠ .callBtf m) :
    ¬ ∃ m, i = .callHelper m ∨ i = .callBtf m := by
  simpa only [not_exists, not_or] using hi

/-- A byte of memory that an instruction changes, by itself and not through a helper, is admitted for the access. -/
theorem Effect.changed_admits {i : Instr} {s t : State} (h : Effect i s t)
    (hi : ∀ m, i ≠ .callHelper m ∧ i ≠ .callBtf m) {a : Nat} (ha : t.mem.get a ≠ s.mem.get a) :
    ∃ kind ≠ AccessKind.read, s.admits a 1 kind = true := by
  obtain hm | hhelper | ⟨acc, base, v, _, hk, _, hf, hm⟩ := h.mem_cases
  · exact absurd (by rw [hm]) ha
  · exact absurd hhelper (not_exists_helperCall hi)
  · have hin : ¬(a < (effectiveAddress base acc.off).toNat ∨
        (effectiveAddress base acc.off).toNat + acc.size ≤ a) := fun hout =>
      ha (by rw [hm, State.stored_get_outside _ _ _ _ hout])
    obtain ⟨k, rfl⟩ := Nat.exists_eq_add_of_le (Nat.le_of_not_lt fun hlt => hin (.inl hlt))
    exact ⟨acc.kind, hk, State.accessFault_none_admits hf (by omega)⟩

/-- Settles O51: a fault of the fetch changes no byte; a byte the fetched instruction changes is admitted, so a writable
region holds it. -/
theorem writesStayInRegions : Obligations.WritesStayInRegions := by
  intro s t hs hi a ha
  obtain ⟨_, ⟨c, _, rfl⟩ | ⟨i, hf, hx⟩⟩ := step_cases hs
  · exact absurd rfl ha
  · obtain ⟨kind, hk, hadm⟩ := (exec_effect hx).changed_admits
      (fun m => ⟨fun h => (hi m).1 (h ▸ hf), fun h => (hi m).2 (h ▸ hf)⟩) ha
    obtain ⟨_, r, hr, ⟨hlo, hhi⟩, _, hwritable⟩ := State.admits_iff.mp hadm
    exact ⟨r, hr, hwritable hk, hlo, hhi⟩

/-- Settles O46: `Effect.mem_cases`; only a store or an atomic has an access that is no read. -/
theorem memoryFrame : Obligations.MemoryFrame := by
  intro s t i h
  obtain hm | ⟨m, hm⟩ | ⟨acc, base, v, hacc, hk, hb, _, hm⟩ := (exec_effect h).mem_cases
  · simp [hm]
  · refine ⟨fun hi => absurd ⟨m, hm⟩ (not_exists_helperCall hi), fun acc base hacc => ?_⟩
    obtain rfl | rfl := hm <;> cases hacc
  · refine ⟨fun _ hread => absurd (hread acc hacc) hk, fun acc' base' hacc' _ hb' a ha => ?_⟩
    obtain rfl : acc' = acc := by simpa [hacc'] using hacc
    obtain rfl : base' = base := by simpa [hb'] using hb
    rw [hm, State.stored_get_outside _ _ _ _ ha]

/-- Settles O28: no region admits the access, so its fault is `MemFault`. -/
theorem memFaultFault : Obligations.MemFaultFault := by
  intro s i acc base ha hr hb ea hn hnone
  have hadm : s.admits ea.toNat acc.size acc.kind = false := by
    rw [← Bool.not_eq_true, State.admits_iff]
    rintro ⟨_, r, hreg, ⟨hlo, hhi⟩, hright⟩
    exact hnone r hreg hlo hhi hright
  exact exec_access_fault ha hr hb (State.accessFault_of_not_admits hn hadm)

end Sys2Proof.Machine
end

section
/-!
PROOF. The bytes a read assembles and a store lays down, in the byte order of the host (O56): the value of a read as a
bit vector of its bytes, and each byte of a stored value as a field of it.
-/

namespace Sys2Proof.Machine

/-! ### The bytes a store lays down -/

/-- The `k`-th byte at ascending addresses (`20_memory.md` R40): from the low end on a little-endian host, from the high
end on a big-endian one. -/
theorem storedBytes_getElem (e : Endian) (n : Nat) (v : Word) {k : Nat} (hk : k < (storedBytes e n v).length) :
    (storedBytes e n v)[k] =
      if e = .little then v.extractLsb' (8 * k) 8 else v.extractLsb' (8 * (n - 1 - k)) 8 := by
  cases e <;> simp [storedBytes, inHostOrder, bytesOf_toNat]

theorem State.stored_get_inside (s : State) (ea : Word) (n : Nat) (v : Word) {k : Nat} (hk : k < n) :
    (s.stored ea n v).mem.get (ea.toNat + k) =
      some (if s.params.hostEndian = .little then v.extractLsb' (8 * k) 8
        else v.extractLsb' (8 * (n - 1 - k)) 8) := by
  rw [State.stored_mem, Memory.get_setBytes_inside _ _ _ _ (by simpa using hk), storedBytes_getElem]

/-! ### The bytes a read supplies -/

theorem State.bytesAt_length (s : State) (j a n : Nat) : (s.bytesAt j a n).length = n := by
  induction n generalizing j a with
  | zero => rfl
  | succ n ih => rw [State.bytesAt, List.length_cons, ih]

theorem State.bytesAt_getElem (s : State) (j a n : Nat) {k : Nat} (hk : k < (s.bytesAt j a n).length) :
    (s.bytesAt j a n)[k] = s.byteAt (j + k) (a + k) := by
  induction n generalizing j a k with
  | zero => exact absurd hk (Nat.not_lt_zero k)
  | succ n ih =>
    cases k with
    | zero => rfl
    | succ k =>
      have hrest := ih (j + 1) (a + 1) (Nat.lt_of_succ_lt_succ hk)
      rwa [Nat.succ_add_eq_add_succ, Nat.succ_add_eq_add_succ] at hrest

/-- The `k`-th byte of the read at `ea`. -/
def State.readByte (s : State) (ea : Word) (k : Nat) : Byte := s.byteAt k (ea.toNat + k)

/-- The two bytes at `ea` in the host's byte order. -/
def State.half (s : State) (ea : Word) : BitVec 16 :=
  let y := s.readByte ea
  if s.params.hostEndian = .little then y 1 ++ y 0 else y 0 ++ y 1

/-- The four bytes at `ea` in the host's byte order. -/
def State.word (s : State) (ea : Word) : Word32 :=
  let y := s.readByte ea
  if s.params.hostEndian = .little then y 3 ++ y 2 ++ y 1 ++ y 0 else y 0 ++ y 1 ++ y 2 ++ y 3

/-- The eight bytes at `ea` in the host's byte order. -/
def State.double (s : State) (ea : Word) : Word :=
  let y := s.readByte ea
  if s.params.hostEndian = .little then y 7 ++ y 6 ++ y 5 ++ y 4 ++ y 3 ++ y 2 ++ y 1 ++ y 0
  else y 0 ++ y 1 ++ y 2 ++ y 3 ++ y 4 ++ y 5 ++ y 6 ++ y 7

/-- Where the bytes of a read, least significant first, make the number of `x`, the value read is `x`. -/
theorem State.valueAt_eq_setWidth {s : State} {ea : Word} {n w : Nat} {x : BitVec w}
    (h : ofBytes (inHostOrder s.params.hostEndian (s.bytesAt 0 ea.toNat n)) = x.toNat) :
    s.valueAt ea n = x.setWidth 64 := by
  rw [State.valueAt, loadedValue, h, BitVec.ofNat_toNat]

section
variable (s : State) (ea : Word)

theorem State.valueAt_one : s.valueAt ea 1 = (s.readByte ea 0).setWidth 64 := by
  refine State.valueAt_eq_setWidth ?_
  cases s.params.hostEndian <;> exact ofBytes_singleton _

theorem State.valueAt_two : s.valueAt ea 2 = (s.half ea).setWidth 64 := by
  refine State.valueAt_eq_setWidth ?_
  unfold State.half
  cases s.params.hostEndian <;> exact ofBytes_cons_eq_append (ofBytes_singleton _) _

theorem State.valueAt_four : s.valueAt ea 4 = (s.word ea).setWidth 64 := by
  refine State.valueAt_eq_setWidth ?_
  unfold State.word
  cases s.params.hostEndian <;>
    exact ofBytes_cons_eq_append (ofBytes_cons_eq_append (ofBytes_cons_eq_append (ofBytes_singleton _) _) _) _

theorem State.valueAt_eight : s.valueAt ea 8 = s.double ea := by
  rw [← BitVec.setWidth_eq (s.double ea)]
  refine State.valueAt_eq_setWidth ?_
  unfold State.double
  cases s.params.hostEndian <;>
    exact ofBytes_cons_eq_append (ofBytes_cons_eq_append (ofBytes_cons_eq_append (ofBytes_cons_eq_append
      (ofBytes_cons_eq_append (ofBytes_cons_eq_append (ofBytes_cons_eq_append (ofBytes_singleton _) _) _) _) _) _)
        _) _

end

/-! ### A read after a store -/

theorem State.byteAt_stored {s : State} {ea v : Word} {n k : Nat} (j : Nat) (hu : s.Unshared ea n) (hk : k < n) :
    (s.stored ea n v).byteAt j (ea.toNat + k) =
      if s.params.hostEndian = .little then v.extractLsb' (8 * k) 8 else v.extractLsb' (8 * (n - 1 - k)) 8 := by
  have hu' : (s.stored ea n v).isShared (ea.toNat + k) = false := hu k hk
  rw [State.byteAt_unshared hu', s.stored_get_inside ea n v hk, Option.getD_some]

/-- A read of the bytes a store laid down supplies them. -/
theorem State.bytesAt_stored {s : State} {ea v : Word} {n : Nat} (hu : s.Unshared ea n) :
    (s.stored ea n v).bytesAt 0 ea.toNat n = storedBytes s.params.hostEndian n v := by
  refine List.ext_getElem (by rw [State.bytesAt_length, storedBytes_length]) fun k hk hk' => ?_
  rw [State.bytesAt_length] at hk
  rw [State.bytesAt_getElem, storedBytes_getElem, State.byteAt_stored _ hu hk]

/-- A read of the width of the store gives the low bytes of the value stored. -/
theorem State.valueAt_stored {s : State} {ea v : Word} {n : Nat} (hu : s.Unshared ea n) :
    (s.stored ea n v).valueAt ea n = lowBytes n v := by
  rw [State.valueAt, State.bytesAt_stored hu, State.stored_params, loadedValue_storedBytes, lowBytes]

/-- A read of one byte of the bytes a store laid down. -/
theorem State.valueAt_stored_byte {s : State} {ea v : Word} {n k : Nat} (hb : ea.toNat + n ≤ 2 ^ 64)
    (hu : s.Unshared ea n) (hk : k < n) :
    (s.stored ea n v).valueAt (ea + BitVec.ofNat 64 k) 1 =
      (if s.params.hostEndian = .little then v.extractLsb' (8 * k) 8
        else v.extractLsb' (8 * (n - 1 - k)) 8).setWidth 64 := by
  have hadd : (ea + BitVec.ofNat 64 k).toNat + 0 = ea.toNat + k := by
    rw [BitVec.toNat_add, BitVec.toNat_ofNat, Nat.mod_eq_of_lt (show k < 2 ^ 64 by omega)]
    omega
  rw [State.valueAt_one, State.readByte, hadd, State.byteAt_stored _ hu hk]

/-- Settles O56: on a big-endian host byte `k` of eight is the field at `8 * (8 - 1 - k)`. -/
theorem mixedWidthAccess : Obligations.MixedWidthAccess := by
  intro s a v hb hu
  refine ⟨fun k hk => ?byte, fun n hn => ?whole⟩
  case byte =>
    rw [State.valueAt_stored_byte hb hu hk, show 8 * (8 - 1 - k) = 56 - 8 * k by omega]
  case whole =>
    have hn8 : n ≤ 8 := by
      revert n
      decide
    rw [State.valueAt_stored fun k hk => hu k (by omega), lowBytes_eq_setWidth]

end Sys2Proof.Machine
end

section
/-!
PROOF. Loads, stores and atomics whose access does not fault (O24, O26, O30, O31, O32), and misaligned plain accesses
made byte by byte (O29).
-/

namespace Sys2Proof.Machine

/-! ### Admitted accesses -/

/-- A byte of a plain access is admitted by a region that holds it and has the right of the access's kind. -/
theorem State.admits_one_iff {s : State} {a : Nat} {kind : AccessKind} (hk : kind ≠ .atomic) :
    s.admits a 1 kind = true ↔ a < 2 ^ 64 ∧ ∃ r ∈ s.params.regions,
      r.base.toNat ≤ a ∧ a < r.base.toNat + r.len ∧
        (kind = .read → r.readable = true) ∧ (kind = .write → r.writable = true) := by
  have hread : kind ≠ .write ↔ kind = .read := by cases kind <;> simp_all
  have hwrite : kind ≠ .read ↔ kind = .write := by cases kind <;> simp_all
  simp only [State.admits_iff, hread, hwrite, Nat.add_one_le_iff, and_assoc]

/-- A misaligned plain access whose bytes are each admitted does not fault without `STRICT_ALIGNMENT`. -/
theorem State.plainFault_none_of_bytes {s : State} {ea : Word} {n : Nat} {kind : AccessKind}
    (hs : s.params.strictAlignment = false) (hn : ea.toNat % n ≠ 0)
    (hb : ∀ k < n, s.admits (ea.toNat + k) 1 kind = true) : s.plainFault ea n kind = none := by
  rw [State.plainFault_bytewise hn hs, State.byteFault_none hb]

/-! ### What a store leaves in memory -/

/-- Memory `m` holds the low `n` bytes of `v` at `ea` in the host's byte order, and the bytes of `s` elsewhere. -/
def State.Lays (s : State) (ea : Word) (n : Nat) (v : Word) (m : Memory) : Prop :=
  (∀ k < n, m.get (ea.toNat + k) =
    some (if s.params.hostEndian = .little then v.extractLsb' (8 * k) 8
      else v.extractLsb' (8 * (n - 1 - k)) 8)) ∧
  (∀ a, a < ea.toNat ∨ ea.toNat + n ≤ a → m.get a = s.mem.get a)

theorem State.stored_lays (s : State) (ea : Word) (n : Nat) (v : Word) : s.Lays ea n v (s.stored ea n v).mem :=
  ⟨fun _ hk => s.stored_get_inside ea n v hk, fun _ ha => s.stored_get_outside ea n v ha⟩

/-! ### Loads -/

theorem signExtendBytes_setWidth {n : Nat} (x : BitVec (8 * n)) (hn : 8 * n ≤ 64) :
    signExtendBytes n (x.setWidth 64) = x.signExtend 64 := by
  rw [signExtendBytes, BitVec.setWidth_setWidth_of_le _ hn, BitVec.setWidth_eq]

section
variable {s : State} {dst src : Reg} {off : Offset} {base v : Word} {n : Nat}

theorem load_next (hb : s.reg src = .written base) (hf : s.plainFault (effectiveAddress base off) n .read = none)
    (hv : s.valueAt (effectiveAddress base off) n = v) :
    load s dst src off n =
      .next { s with regs := s.regs.set dst (.written v), pc := s.pc + 1, draws := s.draws + n } := by
  rw [load_done hb hf, hv]
  rfl

theorem loadSigned_next (hb : s.reg src = .written base)
    (hf : s.plainFault (effectiveAddress base off) n .read = none) (hn : 8 * n ≤ 64) {x : BitVec (8 * n)}
    (hx : s.valueAt (effectiveAddress base off) n = x.setWidth 64) :
    loadSigned s dst src off n =
      .next { s with regs := s.regs.set dst (.written (x.signExtend 64)), pc := s.pc + 1,
                     draws := s.draws + n } := by
  rw [loadSigned_done hb hf, hx, signExtendBytes_setWidth x hn]
  rfl

end

/-- The seven loads, each with its width and the value it gives its destination from the bytes at `ea`
(`43_load_store.md` R290). -/
def loadForms (s : State) (dst src : Reg) (off : Offset) (ea : Word) : List (Instr × Nat × Word) := [
  (.ldxb dst src off, 1, (s.readByte ea 0).setWidth 64), (.ldxh dst src off, 2, (s.half ea).setWidth 64),
  (.ldxw dst src off, 4, (s.word ea).setWidth 64), (.ldxdw dst src off, 8, s.double ea),
  (.ldxsb dst src off, 1, (s.readByte ea 0).signExtend 64), (.ldxsh dst src off, 2, (s.half ea).signExtend 64),
  (.ldxsw dst src off, 4, (s.word ea).signExtend 64)]

/-- The whole next state of a load whose access does not fault, aligned or not. -/
theorem exec_loadForm {s : State} {dst src : Reg} {off : Offset} {base v : Word} {i : Instr} {n : Nat}
    (hb : s.reg src = .written base) (hi : (i, n, v) ∈ loadForms s dst src off (effectiveAddress base off))
    (hf : s.plainFault (effectiveAddress base off) n .read = none) :
    exec i s = .next { s with regs := s.regs.set dst (.written v), pc := s.pc + 1, draws := s.draws + n } := by
  simp only [loadForms, List.mem_cons, Prod.mk.injEq, List.not_mem_nil, or_false] at hi
  obtain ⟨rfl, rfl, rfl⟩ | ⟨rfl, rfl, rfl⟩ | ⟨rfl, rfl, rfl⟩ | ⟨rfl, rfl, rfl⟩ | ⟨rfl, rfl, rfl⟩ |
    ⟨rfl, rfl, rfl⟩ | ⟨rfl, rfl, rfl⟩ := hi
  · exact load_next hb hf (s.valueAt_one _)
  · exact load_next hb hf (s.valueAt_two _)
  · exact load_next hb hf (s.valueAt_four _)
  · exact load_next hb hf (s.valueAt_eight _)
  · exact loadSigned_next hb hf (by decide) (s.valueAt_one _)
  · exact loadSigned_next hb hf (by decide) (s.valueAt_two _)
  · exact loadSigned_next hb hf (by decide) (s.valueAt_four _)

/-- Settles O24: the region admits the aligned access, and the statement's table is `loadForms`. -/
theorem loadResult : Obligations.LoadResult := by
  intro s dst src off base hb ea y le half word double i n v hi hn hbound
  rintro ⟨r, hr, hread, hin⟩
  have hadm : s.admits ea.toNat n .read = true :=
    State.admits_iff.mpr ⟨hbound, r, hr, hin, fun _ => hread, fun h => absurd rfl h⟩
  exact exec_loadForm hb hi (State.plainFault_none hn hadm)

/-! ### Stores -/

section
variable {s : State} {dst src : Reg} {off : Offset} {base x : Word} {n : Nat}

theorem storeImm_next {imm : Word32} (hb : s.reg dst = .written base)
    (hf : s.plainFault (effectiveAddress base off) n .write = none) :
    ∃ m, storeImm s dst off imm n = .next { s with mem := m, pc := s.pc + 1 } ∧
      s.Lays (effectiveAddress base off) n (immSext imm) m :=
  ⟨_, storeImm_done hb hf, s.stored_lays _ _ _⟩

theorem storeReg_next (hb : s.reg dst = .written base) (hx : s.reg src = .written x)
    (hf : s.plainFault (effectiveAddress base off) n .write = none) :
    ∃ m, storeReg s dst src off n = .next { s with mem := m, pc := s.pc + 1 } ∧
      s.Lays (effectiveAddress base off) n x m :=
  ⟨_, storeReg_done hb hx hf, s.stored_lays _ _ _⟩

end

/-- The eight stores, each with its width and its operand (`43_load_store.md` R307). -/
def storeForms (dst src : Reg) (off : Offset) (imm : Word32) (x : Word) : List (Instr × Nat × Word) := [
  (.stb dst off imm, 1, immSext imm), (.sth dst off imm, 2, immSext imm), (.stw dst off imm, 4, immSext imm),
  (.stdw dst off imm, 8, immSext imm), (.stxb dst src off, 1, x), (.stxh dst src off, 2, x),
  (.stxw dst src off, 4, x), (.stxdw dst src off, 8, x)]

/-- The whole next state of a store whose access does not fault, aligned or not. -/
theorem exec_storeForm {s : State} {dst src : Reg} {off : Offset} {imm : Word32} {base x v : Word} {i : Instr}
    {n : Nat} (hb : s.reg dst = .written base) (hx : s.reg src = .written x)
    (hi : (i, n, v) ∈ storeForms dst src off imm x)
    (hf : s.plainFault (effectiveAddress base off) n .write = none) :
    ∃ m, exec i s = .next { s with mem := m, pc := s.pc + 1 } ∧ s.Lays (effectiveAddress base off) n v m := by
  simp only [storeForms, List.mem_cons, Prod.mk.injEq, List.not_mem_nil, or_false] at hi
  obtain ⟨rfl, rfl, rfl⟩ | ⟨rfl, rfl, rfl⟩ | ⟨rfl, rfl, rfl⟩ | ⟨rfl, rfl, rfl⟩ | ⟨rfl, rfl, rfl⟩ |
    ⟨rfl, rfl, rfl⟩ | ⟨rfl, rfl, rfl⟩ | ⟨rfl, rfl, rfl⟩ := hi
  iterate 4 exact storeImm_next hb hf
  iterate 4 exact storeReg_next hb hx hf

/-- Settles O26: the region admits the aligned access, and the statement's table is `storeForms`. -/
theorem storeResult : Obligations.StoreResult := by
  intro s dst src off imm base x hb hx ea le w i n v hi hn hbound
  rintro ⟨r, hr, hwrite, hin⟩
  have hadm : s.admits ea.toNat n .write = true :=
    State.admits_iff.mpr ⟨hbound, r, hr, hin, fun h => absurd rfl h, fun _ => hwrite⟩
  exact exec_storeForm hb hx hi (State.plainFault_none hn hadm)

/-! ### Misaligned loads and stores -/

/-- Settles O29: the multi-byte forms are among `loadForms` and `storeForms`, and without `STRICT_ALIGNMENT` the fault
of a misaligned access is that of its bytes in turn. -/
theorem bytewiseAccess : Obligations.BytewiseAccess := by
  intro s hs le admitted
  have hadm : ∀ kind ≠ AccessKind.atomic, ∀ a, s.admits a 1 kind = true ↔ admitted kind a :=
    fun _ hk _ => State.admits_one_iff hk
  refine ⟨?loads, ?stores, ?faults⟩
  case loads =>
    intro dst src off base hb ea y half word double i n v hi hn hall
    have hform : (i, n, v) ∈ loadForms s dst src off ea :=
      List.Sublist.mem hi (.cons _ (.cons_cons _ (.cons_cons _ (.cons_cons _ (.cons _ (.refl _))))))
    exact exec_loadForm hb hform
      (State.plainFault_none_of_bytes hs hn fun k hk => (hadm .read nofun _).mpr (hall k hk))
  case stores =>
    intro dst src off imm base x hb hx ea w i n v hi hn hall
    have hform : (i, n, v) ∈ storeForms dst src off imm x :=
      List.Sublist.mem hi (.cons _ (.cons_cons _ (.cons_cons _ (.cons_cons _ (.cons _ (.refl _))))))
    exact exec_storeForm hb hx hform
      (State.plainFault_none_of_bytes hs hn fun k hk => (hadm .write nofun _).mpr (hall k hk))
  case faults =>
    intro i acc base ha hkind hr hb ea hn k hk hbefore hfirst
    have hbytes : s.byteFault acc.kind ea.toNat acc.size = some (.memFault (ea + BitVec.ofNat 64 k) 1 acc.kind) := by
      rw [State.byteFault_first hk (fun j hj => (hadm _ hkind _).mpr (hbefore j hj))
        (Bool.eq_false_iff.mpr fun h => hfirst ((hadm _ hkind _).mp h)), BitVec.ofNat_add, BitVec.ofNat_toNat,
        BitVec.setWidth_eq]
    refine exec_access_fault ha hr hb ?_
    rw [State.accessFault_plain hkind]
    exact (State.plainFault_bytewise hn hs).trans hbytes

/-! ### Atomics -/

theorem low32_zext64 (x : Word32) : low32 (zext64 x) = x := by
  rw [low32, zext64, BitVec.setWidth_setWidth_of_le _ (by decide), BitVec.setWidth_eq]

theorem State.low32_valueAt (s : State) (ea : Word) : low32 (s.valueAt ea 4) = s.word ea := by
  rw [State.valueAt_four]
  exact low32_zext64 _

/-- An aligned atomic access in one readable and writable region does not fault. -/
theorem State.atomicFault_none_of_region {s : State} {ea : Word} {n : Nat} (hn : ea.toNat % n = 0)
    (hbound : ea.toNat + n ≤ 2 ^ 64) (hr : ∃ r ∈ s.params.regions, r.readable = true ∧ r.writable = true ∧
      r.base.toNat ≤ ea.toNat ∧ ea.toNat + n ≤ r.base.toNat + r.len) : s.atomicFault ea n = none := by
  obtain ⟨r, hr, hread, hwrite, hin⟩ := hr
  exact State.atomicFault_none hn
    (State.admits_iff.mpr ⟨hbound, r, hr, hin, fun _ => hread, fun _ => hwrite⟩)

section
variable {s : State} {dst src : Reg} {off : Offset} {base x c : Word}

theorem atomic32_next (hb : s.reg dst = .written base) (hx : s.reg src = .written x)
    (hf : s.atomicFault (effectiveAddress base off) 4 = none) (f : Word32 → Word32 → Word32) :
    ∃ m, atomic32 s dst src off f = .next { s with mem := m, pc := s.pc + 1, draws := s.draws + 4 } ∧
      s.Lays (effectiveAddress base off) 4 (zext64 (f (s.word (effectiveAddress base off)) (low32 x))) m := by
  rw [atomic32_done hb hx hf, State.low32_valueAt]
  exact ⟨_, rfl, s.stored_lays _ _ _⟩

theorem atomic64_next (hb : s.reg dst = .written base) (hx : s.reg src = .written x)
    (hf : s.atomicFault (effectiveAddress base off) 8 = none) (f : Word → Word → Word) :
    ∃ m, atomic64 s dst src off f = .next { s with mem := m, pc := s.pc + 1, draws := s.draws + 8 } ∧
      s.Lays (effectiveAddress base off) 8 (f (s.double (effectiveAddress base off)) x) m := by
  rw [atomic64_done hb hx hf, State.valueAt_eight]
  exact ⟨_, rfl, s.stored_lays _ _ _⟩

theorem atomicFetch32_next (hb : s.reg dst = .written base) (hx : s.reg src = .written x)
    (hf : s.atomicFault (effectiveAddress base off) 4 = none) (f : Word32 → Word32 → Word32) :
    ∃ m, atomicFetch32 s dst src off f =
        .next { s with regs := s.regs.set src (.written (zext64 (s.word (effectiveAddress base off)))), mem := m,
                       pc := s.pc + 1, draws := s.draws + 4 } ∧
      s.Lays (effectiveAddress base off) 4 (zext64 (f (s.word (effectiveAddress base off)) (low32 x))) m := by
  rw [atomicFetch32_done hb hx hf, State.low32_valueAt]
  exact ⟨_, rfl, s.stored_lays _ _ _⟩

theorem atomicFetch64_next (hb : s.reg dst = .written base) (hx : s.reg src = .written x)
    (hf : s.atomicFault (effectiveAddress base off) 8 = none) (f : Word → Word → Word) :
    ∃ m, atomicFetch64 s dst src off f =
        .next { s with regs := s.regs.set src (.written (s.double (effectiveAddress base off))), mem := m,
                       pc := s.pc + 1, draws := s.draws + 8 } ∧
      s.Lays (effectiveAddress base off) 8 (f (s.double (effectiveAddress base off)) x) m := by
  rw [atomicFetch64_done hb hx hf, State.valueAt_eight]
  exact ⟨_, rfl, s.stored_lays _ _ _⟩

theorem compareExchange32_next (hb : s.reg dst = .written base) (hx : s.reg src = .written x)
    (hc : s.reg .r0 = .written c) (hf : s.atomicFault (effectiveAddress base off) 4 = none) :
    ∃ m, compareExchange32 s dst src off =
        .next { s with regs := s.regs.set .r0 (.written (zext64 (s.word (effectiveAddress base off)))), mem := m,
                       pc := s.pc + 1, draws := s.draws + 4 } ∧
      s.Lays (effectiveAddress base off) 4
        (zext64 (if s.word (effectiveAddress base off) = low32 c then low32 x
          else s.word (effectiveAddress base off))) m := by
  rw [compareExchange32_done hb hx hc hf, State.low32_valueAt]
  exact ⟨_, rfl, s.stored_lays _ _ _⟩

theorem compareExchange64_next (hb : s.reg dst = .written base) (hx : s.reg src = .written x)
    (hc : s.reg .r0 = .written c) (hf : s.atomicFault (effectiveAddress base off) 8 = none) :
    ∃ m, compareExchange64 s dst src off =
        .next { s with regs := s.regs.set .r0 (.written (s.double (effectiveAddress base off))), mem := m,
                       pc := s.pc + 1, draws := s.draws + 8 } ∧
      s.Lays (effectiveAddress base off) 8
        (if s.double (effectiveAddress base off) = c then x else s.double (effectiveAddress base off)) m := by
  rw [compareExchange64_done hb hx hc hf, State.valueAt_eight]
  exact ⟨_, rfl, s.stored_lays _ _ _⟩

end

/-- Settles O30: each simple atomic is its form at one operator. -/
theorem atomicResult : Obligations.AtomicResult := by
  intro s dst src off base x hb hx ea y le word double x32 i n v hi hn hbound hr
  have hf := State.atomicFault_none_of_region hn hbound hr
  simp only [List.mem_cons, Prod.mk.injEq, List.not_mem_nil, or_false] at hi
  obtain ⟨rfl, rfl, rfl⟩ | ⟨rfl, rfl, rfl⟩ | ⟨rfl, rfl, rfl⟩ | ⟨rfl, rfl, rfl⟩ | ⟨rfl, rfl, rfl⟩ |
    ⟨rfl, rfl, rfl⟩ | ⟨rfl, rfl, rfl⟩ | ⟨rfl, rfl, rfl⟩ := hi
  · exact atomic32_next hb hx hf (· + ·)
  · exact atomic32_next hb hx hf (· ||| ·)
  · exact atomic32_next hb hx hf (· &&& ·)
  · exact atomic32_next hb hx hf (· ^^^ ·)
  · exact atomic64_next hb hx hf (· + ·)
  · exact atomic64_next hb hx hf (· ||| ·)
  · exact atomic64_next hb hx hf (· &&& ·)
  · exact atomic64_next hb hx hf (· ^^^ ·)

/-- Settles O31: each fetching atomic is its form at one operator, an exchange at the second projection. -/
theorem atomicFetchResult : Obligations.AtomicFetchResult := by
  intro s dst src off base x hb hx ea y le word double x32 i n v old hi hn hbound hr
  have hf := State.atomicFault_none_of_region hn hbound hr
  simp only [List.mem_cons, Prod.mk.injEq, List.not_mem_nil, or_false] at hi
  obtain ⟨rfl, rfl, rfl, rfl⟩ | ⟨rfl, rfl, rfl, rfl⟩ | ⟨rfl, rfl, rfl, rfl⟩ | ⟨rfl, rfl, rfl, rfl⟩ |
    ⟨rfl, rfl, rfl, rfl⟩ | ⟨rfl, rfl, rfl, rfl⟩ | ⟨rfl, rfl, rfl, rfl⟩ | ⟨rfl, rfl, rfl, rfl⟩ |
    ⟨rfl, rfl, rfl, rfl⟩ | ⟨rfl, rfl, rfl, rfl⟩ := hi
  · exact atomicFetch32_next hb hx hf (· + ·)
  · exact atomicFetch32_next hb hx hf (· ||| ·)
  · exact atomicFetch32_next hb hx hf (· &&& ·)
  · exact atomicFetch32_next hb hx hf (· ^^^ ·)
  · exact atomicFetch32_next hb hx hf fun _ new => new
  · exact atomicFetch64_next hb hx hf (· + ·)
  · exact atomicFetch64_next hb hx hf (· ||| ·)
  · exact atomicFetch64_next hb hx hf (· &&& ·)
  · exact atomicFetch64_next hb hx hf (· ^^^ ·)
  · exact atomicFetch64_next hb hx hf fun _ new => new

/-- Settles O32: the two forms of compare and exchange. -/
theorem compareExchangeResult : Obligations.CompareExchangeResult := by
  intro s dst src off base x c hb hx hc ea y le word double i n v old hi hn hbound hr
  have hf := State.atomicFault_none_of_region hn hbound hr
  simp only [List.mem_cons, Prod.mk.injEq, List.not_mem_nil, or_false] at hi
  obtain ⟨rfl, rfl, rfl, rfl⟩ | ⟨rfl, rfl, rfl, rfl⟩ := hi
  · exact compareExchange32_next hb hx hc hf
  · exact compareExchange64_next hb hx hc hf

end Sys2Proof.Machine
end

section
/-!
PROOF. The decoder and the encoder (O52, O53, O54, O55, O58), and what the fetch refuses (O41, O42). `Fields.Holds` says
when the fields of a slot hold an instruction. For each format one lemma (`reads_…`) says that the format's reader
answers the instruction of its family that the fields hold. `Fields.decode_explained` goes down the decoder to the
formats: it answers only what the fields hold. `Fields.Holds.decode_eq` goes through the instructions: what the fields
hold is answered.
-/

namespace Sys2Proof

/-! ### The fields that hold an instruction -/

/-- The fields agree with the encoder's where the instruction uses them, and under `STRICT_UNUSED` everywhere
(`30_encoding.md` R66). -/
structure Fields.Agrees (f : Fields) (u : UsedFields) (strict : Bool) (e : Fields) : Prop where
  opcode : f.opcode = e.opcode
  dst : u.dst = true ∨ strict = true → f.dst = e.dst
  src : u.src = true ∨ strict = true → f.src = e.src
  off : u.off = true ∨ strict = true → f.off = e.off
  imm : u.imm = true ∨ strict = true → f.imm = e.imm

/-- The fields of a slot and of the slot after it hold an instruction (`30_encoding.md` R67, Table R78-T). -/
structure Fields.Holds (f : Fields) (strict : Bool) (next : Option Fields) (i : Instr) : Prop where
  first : f.Agrees (usedFields i) strict (encodeFields i)
  second : ∀ nextImm, encodeNext i = some nextImm →
    ∃ g, next = some g ∧ g.Agrees (usedFields i).second strict (secondFields nextImm)

section
variable {f e : Fields} {u : UsedFields}

theorem Fields.agrees_iff {strict : Bool} :
    f.Agrees u strict e ↔ f.opcode = e.opcode ∧ (u.dst = true ∨ strict = true → f.dst = e.dst) ∧
      (u.src = true ∨ strict = true → f.src = e.src) ∧ (u.off = true ∨ strict = true → f.off = e.off) ∧
      (u.imm = true ∨ strict = true → f.imm = e.imm) :=
  ⟨fun ⟨ho, hd, hs, hoff, himm⟩ => ⟨ho, hd, hs, hoff, himm⟩, fun ⟨ho, hd, hs, hoff, himm⟩ => ⟨ho, hd, hs, hoff, himm⟩⟩

theorem Fields.Agrees.refl (f : Fields) (u : UsedFields) (strict : Bool) : f.Agrees u strict f :=
  ⟨rfl, fun _ => rfl, fun _ => rfl, fun _ => rfl, fun _ => rfl⟩

theorem Fields.Agrees.eq_of_strict (h : f.Agrees u true e) : f = e := by
  obtain ⟨⟩ := f
  obtain ⟨⟩ := e
  obtain ⟨ho, hd, hs, hoff, himm⟩ := h
  exact (Fields.mk.injEq ..).mpr ⟨ho, hd (.inr rfl), hs (.inr rfl), hoff (.inr rfl), himm (.inr rfl)⟩

/-- One field kept, where an unused one is zero in `b`. -/
theorem keepField_iff {n : Nat} {used : Bool} {a b : BitVec n} (hb : (if used then b else 0) = b) :
    (if used then a else 0) = b ↔ (used = true → a = b) := by
  cases used
  · exact iff_of_true hb nofun
  · simp

/-- Without `STRICT_UNUSED` the fields agree when those that are used do. -/
theorem Fields.agrees_false_iff (he : e.keep u = e) : f.Agrees u false e ↔ f.keep u = e := by
  obtain ⟨⟩ := e
  obtain ⟨-, hd, hs, hoff, himm⟩ := (Fields.mk.injEq ..).mp he
  rw [Fields.agrees_iff, Fields.keep, Fields.mk.injEq, keepField_iff hd, keepField_iff hs, keepField_iff hoff,
    keepField_iff himm]
  simp only [Bool.false_eq_true, or_false]

end

/-! ### What the decoder answers -/

/-- The opcode byte is some instruction's (`30_encoding.md` Table R75-T). -/
def Fields.Assigned (f : Fields) : Prop := ∃ i, (encodeFields i).opcode = f.opcode

/-- An answer that reads the instructions of a family: the one of them that the fields hold. -/
structure Fields.Reads (f : Fields) (strict : Bool) (next : Option Fields) (r : Decoded) (family : Instr → Prop) :
    Prop where
  ok_iff : ∀ i, r = .ok i ↔ family i ∧ f.Holds strict next i
  assigned : f.Assigned

/-- An answer that is right: an instruction that the fields hold, or an error, which is `reservedOpcode` where the
opcode byte is not assigned. -/
structure Fields.Explained (f : Fields) (strict : Bool) (next : Option Fields) (r : Decoded) : Prop where
  holds : ∀ i, r = .ok i → f.Holds strict next i
  assigned : r ≠ .error .reservedOpcode → f.Assigned

section
variable {f : Fields} {strict : Bool} {next : Option Fields}

theorem Fields.Reads.explained {r : Decoded} {family : Instr → Prop} (h : f.Reads strict next r family) :
    f.Explained strict next r :=
  ⟨fun i hi => ((h.ok_iff i).mp hi).2, fun _ => h.assigned⟩

theorem Fields.Reads.ok {r : Decoded} {family : Instr → Prop} {i : Instr} (h : f.Reads strict next r family)
    (hf : family i) (hi : f.Holds strict next i) : r = .ok i :=
  (h.ok_iff i).mpr ⟨hf, hi⟩

theorem Fields.explained_error (h : f.Assigned) (c : DecodeError) : f.Explained strict next (.error c) :=
  ⟨fun _ hi => (nomatch hi), fun _ => h⟩

theorem Fields.explained_reservedOpcode : f.Explained strict next (.error .reservedOpcode) :=
  ⟨fun _ hi => (nomatch hi), fun h => absurd rfl h⟩

end

/-! ### Reading registers -/

theorem unusedZero_eq_ok {strict zero : Bool} {k : Decoded} {i : Instr} :
    unusedZero strict zero k = .ok i ↔ (strict = true → zero = true) ∧ k = .ok i := by
  cases strict <;> cases zero <;> simp [unusedZero]

theorem unusedZero_true (strict : Bool) (k : Decoded) : unusedZero strict true k = k := by
  cases strict <;> rfl

theorem regField_eq_ok {n : BitVec 4} {k : Reg → Decoded} {i : Instr} :
    regField n k = .ok i ↔ ∃ r : Reg, n = r.toField ∧ k r = .ok i := by
  constructor
  · intro h
    unfold regField at h
    split at h
    · rename_i r hr
      exact ⟨r, (Reg.toField_of_ofField hr).symm, h⟩
    · cases h
  · rintro ⟨r, rfl, h⟩
    rwa [regField_toField]

section
variable {f : Fields} {strict zero : Bool} {next : Option Fields}

/-- A format without registers. -/
theorem Fields.reads_noReg {j : Instr} (ha : f.Assigned)
    (h : f.Holds strict next j ↔ (strict = true → zero = true)) :
    f.Reads strict next (unusedZero strict zero (.ok j)) (· = j) := by
  refine ⟨fun i => ?_, ha⟩
  rw [unusedZero_eq_ok, Except.ok.injEq]
  constructor
  · rintro ⟨hz, rfl⟩
    exact ⟨rfl, h.mpr hz⟩
  · rintro ⟨rfl, hi⟩
    exact ⟨h.mp hi, rfl⟩

/-- A format with one register. -/
theorem Fields.reads_oneReg {n : BitVec 4} {mk : Reg → Instr} (ha : f.Assigned)
    (h : ∀ r, f.Holds strict next (mk r) ↔ n = r.toField ∧ (strict = true → zero = true)) :
    f.Reads strict next (unusedZero strict zero <| regField n fun r => .ok (mk r)) (∃ r, · = mk r) := by
  refine ⟨fun i => ?_, ha⟩
  simp only [unusedZero_eq_ok, regField_eq_ok, Except.ok.injEq]
  constructor
  · rintro ⟨hz, r, hr, rfl⟩
    exact ⟨⟨r, rfl⟩, (h r).mpr ⟨hr, hz⟩⟩
  · rintro ⟨⟨r, rfl⟩, hi⟩
    obtain ⟨hr, hz⟩ := (h r).mp hi
    exact ⟨hz, r, hr, rfl⟩

/-- A format with two registers. -/
theorem Fields.reads_twoRegs {m n : BitVec 4} {mk : Reg → Reg → Instr} (ha : f.Assigned)
    (h : ∀ d r, f.Holds strict next (mk d r) ↔ m = d.toField ∧ n = r.toField ∧ (strict = true → zero = true)) :
    f.Reads strict next (unusedZero strict zero <| regField m fun d => regField n fun r => .ok (mk d r))
      (∃ d r, · = mk d r) := by
  refine ⟨fun i => ?_, ha⟩
  simp only [unusedZero_eq_ok, regField_eq_ok, Except.ok.injEq]
  constructor
  · rintro ⟨hz, d, hd, r, hr, rfl⟩
    exact ⟨⟨d, r, rfl⟩, (h d r).mpr ⟨hd, hr, hz⟩⟩
  · rintro ⟨⟨d, r, rfl⟩, hi⟩
    obtain ⟨hd, hr, hz⟩ := (h d r).mp hi
    exact ⟨hz, d, hd, r, hr, rfl⟩

end

/-! ### The formats of Table R78-T -/

/-- The encoder's layout of an instruction, the fields it uses, and its 'next_imm'. For an instruction given by its
constructor all three compute, so that its row is checked by `rfl`. -/
structure Encodes (i : Instr) (e : Fields) (u : UsedFields) (next : Option Word32) : Prop where
  fields : encodeFields i = e
  used : usedFields i = u
  second : encodeNext i = next

/-- Format `ALU_K` of an opcode byte and a selecting 'offset'. -/
def EncodesK (mk : Reg → Word32 → Instr) (o : BitVec 8) (off : Offset) : Prop :=
  ∀ d imm, Encodes (mk d imm) (fieldsK o off d imm) ⟨true, false, true, true, false⟩ none

/-- Format `ALU_X` of an opcode byte and a selecting 'offset'. -/
def EncodesX (mk : Reg → Reg → Instr) (o : BitVec 8) (off : Offset) : Prop :=
  ∀ d r, Encodes (mk d r) (fieldsX o off d r) ⟨true, true, true, false, false⟩ none

/-- Format `ALU_UNARY` of an opcode byte. -/
def EncodesUnary (mk : Reg → Instr) (o : BitVec 8) : Prop :=
  ∀ d, Encodes (mk d) (fieldsK o 0 d 0) ⟨true, false, true, false, false⟩ none

/-- Format `END` of an opcode byte and a width. -/
def EncodesEnd (mk : Reg → Instr) (o : BitVec 8) (width : Word32) : Prop :=
  ∀ d, Encodes (mk d) (fieldsK o 0 d width) ⟨true, false, false, true, false⟩ none

/-- Formats `JMP_K` and `ST` of an opcode byte. -/
def EncodesDst (mk : Reg → Word32 → Offset → Instr) (o : BitVec 8) : Prop :=
  ∀ d imm off, Encodes (mk d imm off) (fieldsDst o d off imm) ⟨true, false, true, true, false⟩ none

/-- Formats `JMP_X`, `LDX` and `STX` of an opcode byte. -/
def EncodesBoth (mk : Reg → Reg → Offset → Instr) (o : BitVec 8) : Prop :=
  ∀ d r off, Encodes (mk d r off) (fieldsBoth o d r off 0) ⟨true, true, true, false, false⟩ none

/-- Format `ATOMIC` of an opcode byte and a selecting 'imm'. -/
def EncodesAtomic (mk : Reg → Reg → Offset → Instr) (o : BitVec 8) (imm : Word32) : Prop :=
  ∀ d r off, Encodes (mk d r off) (fieldsBoth o d r off imm) ⟨true, true, true, true, false⟩ none

/-- Format `CALL` of a subtype. -/
def EncodesCall (mk : Word32 → Instr) (o : BitVec 8) (subtype : BitVec 4) : Prop :=
  ∀ imm, Encodes (mk imm) (fieldsNone o subtype 0 imm) ⟨false, true, false, true, false⟩ none

/-- Formats `JA32` and `LDABS` of an opcode byte. -/
def EncodesImm (mk : Word32 → Instr) (o : BitVec 8) : Prop :=
  ∀ imm, Encodes (mk imm) (fieldsNone o 0 0 imm) ⟨false, false, false, true, false⟩ none

/-- Format `LDIND` of an opcode byte. -/
def EncodesInd (mk : Reg → Word32 → Instr) (o : BitVec 8) : Prop :=
  ∀ r imm, Encodes (mk r imm) (fieldsSrc o r imm) ⟨false, true, false, true, false⟩ none

/-- Format `IMM64` of a subtype that uses 'next_imm'. -/
def EncodesWide (mk : Reg → Word32 → Word32 → Instr) (o : BitVec 8) (subtype : BitVec 4) : Prop :=
  ∀ d imm nextImm,
    Encodes (mk d imm nextImm) (fieldsWide o subtype d imm) ⟨true, true, false, true, true⟩ (some nextImm)

/-- Format `IMM64` of a subtype that does not use 'next_imm'. -/
def EncodesWidePlain (mk : Reg → Word32 → Instr) (o : BitVec 8) (subtype : BitVec 4) : Prop :=
  ∀ d imm, Encodes (mk d imm) (fieldsWide o subtype d imm) ⟨true, true, false, true, false⟩ (some 0)

section
variable {i : Instr} {e f g : Fields} {u : UsedFields} {strict : Bool} {next : Option Fields}

theorem Encodes.assigned {n : Option Word32} (h : Encodes i e u n) (ho : f.opcode = e.opcode) : f.Assigned :=
  ⟨i, by rw [h.fields, ho]⟩

theorem Encodes.holds_iff (h : Encodes i e u none) : f.Holds strict next i ↔ f.Agrees u strict e := by
  obtain ⟨rfl, rfl, hn⟩ := h
  exact ⟨Fields.Holds.first, fun hf => ⟨hf, by simp [hn]⟩⟩

/-- The reserved half of a second slot (`30_encoding.md` R67). -/
def Fields.reservedHalfZero (g : Fields) : Bool := g.opcode == 0 && g.dst == 0 && g.src == 0 && g.off == 0

/-- A second slot: its reserved half counts, strict or not, and 'next_imm' where the form uses it. -/
theorem Fields.agrees_second_iff {n : Word32} :
    g.Agrees u.second strict (secondFields n) ↔
      g.reservedHalfZero = true ∧ (u.nextImm = true ∨ strict = true → g.imm = n) := by
  simp [Fields.agrees_iff, Fields.reservedHalfZero, UsedFields.second, secondFields, and_assoc]

theorem Encodes.holds_wide_iff {n : Word32} (h : Encodes i e u (some n)) (hg : g.reservedHalfZero = true) :
    f.Holds strict (some g) i ↔ f.Agrees u strict e ∧ (u.nextImm = true ∨ strict = true → g.imm = n) := by
  obtain ⟨rfl, rfl, hn⟩ := h
  constructor
  · rintro ⟨hfirst, hnext⟩
    obtain ⟨_, ⟨⟩, hag⟩ := hnext n hn
    exact ⟨hfirst, (Fields.agrees_second_iff.mp hag).2⟩
  · rintro ⟨hfirst, himm⟩
    refine ⟨hfirst, fun m hm => ⟨g, rfl, ?_⟩⟩
    obtain rfl : n = m := by simpa [hn] using hm
    exact Fields.agrees_second_iff.mpr ⟨hg, himm⟩

end

/-! ### What each format reads -/

section
variable {f g : Fields} {strict : Bool} {next : Option Fields} {o : BitVec 8}

theorem Fields.reads_aluK {mk : Reg → Word32 → Instr} {off : Offset} (ho : f.opcode = o) (hoff : f.off = off)
    (h : EncodesK mk o off) : f.Reads strict next (f.aluK strict mk) (∃ d, · = mk d f.imm) :=
  reads_oneReg ((h .r0 0).assigned ho) fun d => by simp [(h d f.imm).holds_iff, agrees_iff, fieldsK, ho, hoff]

theorem Fields.reads_aluX {mk : Reg → Reg → Instr} {off : Offset} (ho : f.opcode = o) (hoff : f.off = off)
    (h : EncodesX mk o off) : f.Reads strict next (f.aluX strict mk) (∃ d r, · = mk d r) :=
  reads_twoRegs ((h .r0 .r0).assigned ho) fun d r => by simp [(h d r).holds_iff, agrees_iff, fieldsX, ho, hoff]

theorem Fields.reads_aluUnary {mk : Reg → Instr} (ho : f.opcode = o) (hoff : f.off = 0) (h : EncodesUnary mk o) :
    f.Reads strict next (f.aluUnary strict mk) (∃ d, · = mk d) :=
  reads_oneReg ((h .r0).assigned ho) fun d => by simp [(h d).holds_iff, agrees_iff, fieldsK, ho, hoff, forall_and]

theorem Fields.reads_end {mk : Reg → Instr} {width : Word32} (ho : f.opcode = o) (himm : f.imm = width)
    (h : EncodesEnd mk o width) :
    f.Reads strict next (unusedZero strict (f.src == 0 && f.off == 0) <| regField f.dst fun d => .ok (mk d))
      (∃ d, · = mk d) :=
  reads_oneReg ((h .r0).assigned ho) fun d => by simp [(h d).holds_iff, agrees_iff, fieldsK, ho, himm, forall_and]

theorem Fields.reads_jmpK {mk : Reg → Word32 → Offset → Instr} (ho : f.opcode = o) (h : EncodesDst mk o) :
    f.Reads strict next (f.jmpK strict mk) (∃ d, · = mk d f.imm f.off) :=
  reads_oneReg ((h .r0 0 0).assigned ho) fun d => by simp [(h d f.imm f.off).holds_iff, agrees_iff, fieldsDst, ho]

theorem Fields.reads_st {mk : Reg → Offset → Word32 → Instr} (ho : f.opcode = o)
    (h : EncodesDst (fun d imm off => mk d off imm) o) :
    f.Reads strict next (f.st strict mk) (∃ d, · = mk d f.off f.imm) :=
  reads_jmpK ho h

theorem Fields.reads_both {mk : Reg → Reg → Offset → Instr} (ho : f.opcode = o) (h : EncodesBoth mk o) :
    f.Reads strict next (f.twoRegs strict mk) (∃ d r, · = mk d r f.off) :=
  reads_twoRegs ((h .r0 .r0 0).assigned ho) fun d r => by simp [(h d r f.off).holds_iff, agrees_iff, fieldsBoth, ho]

theorem Fields.reads_atomic {mk : Reg → Reg → Offset → Instr} {imm : Word32} (ho : f.opcode = o) (himm : f.imm = imm)
    (h : EncodesAtomic mk o imm) : f.Reads strict next (f.atomic mk) (∃ d r, · = mk d r f.off) := by
  rw [Fields.atomic, ← unusedZero_true strict (regField f.dst _)]
  exact reads_twoRegs ((h .r0 .r0 0).assigned ho) fun d r => by
    simp [(h d r f.off).holds_iff, agrees_iff, fieldsBoth, ho, himm]

theorem Fields.reads_call {mk : Word32 → Instr} {subtype : BitVec 4} (ho : f.opcode = o) (hs : f.src = subtype)
    (h : EncodesCall mk o subtype) :
    f.Reads strict next (unusedZero strict (f.dst == 0 && f.off == 0) (.ok (mk f.imm))) (· = mk f.imm) :=
  reads_noReg ((h 0).assigned ho) (by simp [(h f.imm).holds_iff, agrees_iff, fieldsNone, ho, hs, forall_and])

theorem Fields.reads_imm {mk : Word32 → Instr} (ho : f.opcode = o) (h : EncodesImm mk o) :
    f.Reads strict next (f.ldAbs strict mk) (· = mk f.imm) :=
  reads_noReg ((h 0).assigned ho) (by simp [(h f.imm).holds_iff, agrees_iff, fieldsNone, ho, forall_and, and_assoc])

theorem Fields.reads_ldInd {mk : Reg → Word32 → Instr} (ho : f.opcode = o) (h : EncodesInd mk o) :
    f.Reads strict next (f.ldInd strict mk) (∃ r, · = mk r f.imm) :=
  reads_oneReg ((h .r0 0).assigned ho) fun r => by
    simp [(h r f.imm).holds_iff, agrees_iff, fieldsSrc, ho, forall_and, and_left_comm]

theorem Fields.reads_ja (ho : f.opcode = 0x05) :
    f.Reads strict next (unusedZero strict (f.dst == 0 && f.src == 0 && f.imm == 0) (.ok (.ja f.off)))
      (· = .ja f.off) := by
  have h : Encodes (.ja f.off) (fieldsNone 0x05 0 f.off 0) ⟨false, false, true, false, false⟩ none := ⟨rfl, rfl, rfl⟩
  exact reads_noReg (h.assigned ho) (by simp [h.holds_iff, agrees_iff, fieldsNone, ho, forall_and, and_assoc])

theorem Fields.reads_exit (ho : f.opcode = 0x95) :
    f.Reads strict next (unusedZero strict (f.dst == 0 && f.src == 0 && f.off == 0 && f.imm == 0) (.ok .exit))
      (· = .exit) := by
  have h : Encodes .exit (fieldsNone 0x95 0 0 0) ⟨false, false, false, false, false⟩ none := ⟨rfl, rfl, rfl⟩
  exact reads_noReg (h.assigned ho) (by simp [h.holds_iff, agrees_iff, fieldsNone, ho, forall_and, and_assoc])

theorem Fields.reads_wideUsing {mk : Reg → Word32 → Word32 → Instr} {subtype : BitVec 4} (ho : f.opcode = o)
    (hs : f.src = subtype) (hg : g.reservedHalfZero = true) (h : EncodesWide mk o subtype) :
    f.Reads strict (some g) (f.wideUsing strict g.imm mk) (∃ d, · = mk d f.imm g.imm) :=
  reads_oneReg ((h .r0 0 0).assigned ho) fun d => by
    simp [(h d f.imm g.imm).holds_wide_iff hg, agrees_iff, fieldsWide, ho, hs]

theorem Fields.reads_widePlain {mk : Reg → Word32 → Instr} {subtype : BitVec 4} (ho : f.opcode = o)
    (hs : f.src = subtype) (hg : g.reservedHalfZero = true) (h : EncodesWidePlain mk o subtype) :
    f.Reads strict (some g) (f.widePlain strict g.imm mk) (∃ d, · = mk d f.imm) :=
  reads_oneReg ((h .r0 0).assigned ho) fun d => by
    simp [(h d f.imm).holds_wide_iff hg, agrees_iff, fieldsWide, ho, hs, forall_and, and_assoc]

end

/-! ### The opcode byte and its parts -/

/-- The opcode byte of a class, bits 2 to 0, under the five bits above it (`30_encoding.md` R68, R71). -/
def opcodeByte (modeSize cls : Nat) : BitVec 8 := BitVec.ofNat 8 (8 * modeSize + cls)

/-- The class, bits 2 to 0 of the opcode byte. -/
def Fields.cls (f : Fields) : Nat := (f.opcode.extractLsb' 0 3).toNat

theorem Fields.opcode_of_modeSize {f : Fields} {m c : Nat} (hc : f.cls = c) (hm : f.modeSize = m) :
    f.opcode = opcodeByte m c := by
  have key : ∀ o : BitVec 8, o = opcodeByte (o.extractLsb' 3 5).toNat (o.extractLsb' 0 3).toNat := by decide
  subst hc hm
  exact key f.opcode

/-- The operation code and the source bit are the five bits above the class (`30_encoding.md` R69, R70). -/
theorem Fields.opcode_of_code {f : Fields} {n c : Nat} {x : Bool} (hc : f.cls = c) (hn : f.code = n)
    (hx : f.isX = x) : f.opcode = opcodeByte (2 * n + x.toNat) c := by
  have key : ∀ o : BitVec 8, (o.extractLsb' 3 5).toNat = 2 * (o.extractLsb' 4 4).toNat + (o.getLsbD 3).toNat := by
    decide
  subst hn hx
  exact Fields.opcode_of_modeSize hc (key f.opcode)

theorem eq_ofNat_of_toNat {w n : Nat} {v : BitVec w} (h : v.toNat = n) : v = BitVec.ofNat w n := by
  rw [← h, BitVec.ofNat_toNat, BitVec.setWidth_eq]

/-! ### The arithmetic classes -/

section
variable {f : Fields} {strict : Bool} {next : Option Fields} {c n : Nat}

/-- A code with a K and an X form, at an 'offset' that selects both. -/
theorem Fields.aluForms_explained {off : Offset} (hc : f.cls = c) (hn : f.code = n) (hoff : f.off = off)
    {k : Reg → Word32 → Instr} {x : Reg → Reg → Instr} (hk : EncodesK k (opcodeByte (2 * n) c) off)
    (hx : EncodesX x (opcodeByte (2 * n + 1) c) off) :
    f.Explained strict next (if f.isX then f.aluX strict x else f.aluK strict k) := by
  cases hX : f.isX
  · exact (reads_aluK (opcode_of_code hc hn hX) hoff hk).explained
  · exact (reads_aluX (opcode_of_code hc hn hX) hoff hx).explained

theorem Fields.assigned_of_aluForms {off : Offset} (hc : f.cls = c) (hn : f.code = n) {k : Reg → Word32 → Instr}
    {x : Reg → Reg → Instr} (hk : EncodesK k (opcodeByte (2 * n) c) off)
    (hx : EncodesX x (opcodeByte (2 * n + 1) c) off) : f.Assigned := by
  cases hX : f.isX
  · exact (hk .r0 0).assigned (opcode_of_code hc hn hX)
  · exact (hx .r0 .r0).assigned (opcode_of_code hc hn hX)

theorem Fields.plainCode_explained (hc : f.cls = c) (hn : f.code = n) {k : Reg → Word32 → Instr}
    {x : Reg → Reg → Instr} (hk : EncodesK k (opcodeByte (2 * n) c) 0) (hx : EncodesX x (opcodeByte (2 * n + 1) c) 0) :
    f.Explained strict next (f.plainCode strict k x) := by
  unfold Fields.plainCode
  split
  · rename_i hoff
    exact aluForms_explained hc hn (eq_ofNat_of_toNat hoff) hk hx
  · exact explained_error (assigned_of_aluForms hc hn hk hx) _

theorem Fields.divCode_explained (hc : f.cls = c) (hn : f.code = n) {k sk : Reg → Word32 → Instr}
    {x sx : Reg → Reg → Instr} (hk : EncodesK k (opcodeByte (2 * n) c) 0) (hx : EncodesX x (opcodeByte (2 * n + 1) c) 0)
    (hsk : EncodesK sk (opcodeByte (2 * n) c) 1) (hsx : EncodesX sx (opcodeByte (2 * n + 1) c) 1) :
    f.Explained strict next (f.divCode strict k x sk sx) := by
  unfold Fields.divCode
  split
  · rename_i hoff
    exact aluForms_explained hc hn (eq_ofNat_of_toNat hoff) hk hx
  · rename_i hoff
    exact aluForms_explained hc hn (eq_ofNat_of_toNat hoff) hsk hsx
  · exact explained_error (assigned_of_aluForms hc hn hk hx) _

theorem Fields.negCode_explained (hc : f.cls = c) (hn : f.code = n) {mk : Reg → Instr}
    (h : EncodesUnary mk (opcodeByte (2 * n) c)) : f.Explained strict next (f.negCode strict mk) := by
  unfold Fields.negCode
  cases hX : f.isX
  case true => exact explained_reservedOpcode
  case false =>
    have ho := opcode_of_code hc hn hX
    simp only [Bool.false_eq_true, if_false]
    split
    · rename_i hoff
      exact (reads_aluUnary ho (eq_ofNat_of_toNat hoff) h).explained
    · exact explained_error ((h .r0).assigned ho) _

theorem Fields.endCode_explained {o : BitVec 8} (ho : f.opcode = o) {w16 w32 w64 : Reg → Instr}
    (h16 : EncodesEnd w16 o 16) (h32 : EncodesEnd w32 o 32) (h64 : EncodesEnd w64 o 64) :
    f.Explained strict next (f.endCode strict w16 w32 w64) := by
  unfold Fields.endCode
  split
  · rename_i himm
    exact (reads_end ho (eq_ofNat_of_toNat himm) h16).explained
  · rename_i himm
    exact (reads_end ho (eq_ofNat_of_toNat himm) h32).explained
  · rename_i himm
    exact (reads_end ho (eq_ofNat_of_toNat himm) h64).explained
  · exact explained_error ((h16 .r0).assigned ho) _

/-- An X form that 'offset' selects by itself: a move with sign extension. -/
theorem Fields.aluX_explained (hc : f.cls = c) (hn : f.code = n) (hX : f.isX = true) {m : Nat} (hoff : f.off.toNat = m)
    {x : Reg → Reg → Instr} (h : EncodesX x (opcodeByte (2 * n + 1) c) (BitVec.ofNat 16 m)) :
    f.Explained strict next (f.aluX strict x) :=
  (reads_aluX (opcode_of_code hc hn hX) (eq_ofNat_of_toNat hoff) h).explained

theorem Fields.aluK_explained (hc : f.cls = c) (hn : f.code = n) (hX : f.isX = false) {m : Nat} (hoff : f.off.toNat = m)
    {k : Reg → Word32 → Instr} (h : EncodesK k (opcodeByte (2 * n) c) (BitVec.ofNat 16 m)) :
    f.Explained strict next (f.aluK strict k) :=
  (reads_aluK (opcode_of_code hc hn hX) (eq_ofNat_of_toNat hoff) h).explained

theorem Fields.decodeAlu32_explained (hc : f.cls = 4) : f.Explained strict next (f.decodeAlu32 strict) := by
  unfold Fields.decodeAlu32
  split
  case h_4 hn | h_10 hn =>
    exact divCode_explained hc hn (fun _ _ => ⟨rfl, rfl, rfl⟩) (fun _ _ => ⟨rfl, rfl, rfl⟩)
      (fun _ _ => ⟨rfl, rfl, rfl⟩) (fun _ _ => ⟨rfl, rfl, rfl⟩)
  case h_9 hn => exact negCode_explained hc hn fun _ => ⟨rfl, rfl, rfl⟩
  case h_12 hn =>
    split
    case h_1 hX hoff => exact aluK_explained hc hn hX hoff fun _ _ => ⟨rfl, rfl, rfl⟩
    case h_2 hX hoff | h_3 hX hoff | h_4 hX hoff =>
      exact aluX_explained hc hn hX hoff fun _ _ => ⟨rfl, rfl, rfl⟩
    case h_5 =>
      exact explained_error (assigned_of_aluForms (k := .mov32K) (x := .mov32X) (off := 0) hc hn
        (fun _ _ => ⟨rfl, rfl, rfl⟩) (fun _ _ => ⟨rfl, rfl, rfl⟩)) _
  case h_14 hn =>
    cases hX : f.isX <;>
      exact endCode_explained (opcode_of_code hc hn hX) (fun _ => ⟨rfl, rfl, rfl⟩) (fun _ => ⟨rfl, rfl, rfl⟩)
        (fun _ => ⟨rfl, rfl, rfl⟩)
  case h_15 => exact explained_reservedOpcode
  all_goals
    rename_i hn
    exact plainCode_explained hc hn (fun _ _ => ⟨rfl, rfl, rfl⟩) (fun _ _ => ⟨rfl, rfl, rfl⟩)

theorem Fields.decodeAlu64_explained (hc : f.cls = 7) : f.Explained strict next (f.decodeAlu64 strict) := by
  unfold Fields.decodeAlu64
  split
  case h_4 hn | h_10 hn =>
    exact divCode_explained hc hn (fun _ _ => ⟨rfl, rfl, rfl⟩) (fun _ _ => ⟨rfl, rfl, rfl⟩)
      (fun _ _ => ⟨rfl, rfl, rfl⟩) (fun _ _ => ⟨rfl, rfl, rfl⟩)
  case h_9 hn => exact negCode_explained hc hn fun _ => ⟨rfl, rfl, rfl⟩
  case h_12 hn =>
    split
    case h_1 hX hoff => exact aluK_explained hc hn hX hoff fun _ _ => ⟨rfl, rfl, rfl⟩
    case h_2 hX hoff | h_3 hX hoff | h_4 hX hoff | h_5 hX hoff =>
      exact aluX_explained hc hn hX hoff fun _ _ => ⟨rfl, rfl, rfl⟩
    case h_6 =>
      exact explained_error (assigned_of_aluForms (k := .mov64K) (x := .mov64X) (off := 0) hc hn
        (fun _ _ => ⟨rfl, rfl, rfl⟩) (fun _ _ => ⟨rfl, rfl, rfl⟩)) _
  case h_14 hn =>
    cases hX : f.isX
    · exact endCode_explained (opcode_of_code hc hn hX) (fun _ => ⟨rfl, rfl, rfl⟩) (fun _ => ⟨rfl, rfl, rfl⟩)
        (fun _ => ⟨rfl, rfl, rfl⟩)
    · exact explained_reservedOpcode
  case h_15 => exact explained_reservedOpcode
  all_goals
    rename_i hn
    exact plainCode_explained hc hn (fun _ _ => ⟨rfl, rfl, rfl⟩) (fun _ _ => ⟨rfl, rfl, rfl⟩)

end

/-! ### The jump classes -/

section
variable {f : Fields} {strict : Bool} {next : Option Fields} {c n : Nat}

theorem Fields.condCode_explained (hc : f.cls = c) (hn : f.code = n) {k : Reg → Word32 → Offset → Instr}
    {x : Reg → Reg → Offset → Instr} (hk : EncodesDst k (opcodeByte (2 * n) c))
    (hx : EncodesBoth x (opcodeByte (2 * n + 1) c)) : f.Explained strict next (f.condCode strict k x) := by
  unfold Fields.condCode
  cases hX : f.isX
  · exact (reads_jmpK (opcode_of_code hc hn hX) hk).explained
  · exact (reads_both (opcode_of_code hc hn hX) hx).explained

/-- A code whose source bit must be clear. -/
theorem Fields.noX_explained (hc : f.cls = c) (hn : f.code = n) {r : Decoded}
    (h : f.opcode = opcodeByte (2 * n) c → f.Explained strict next r) :
    f.Explained strict next (if f.isX then .error .reservedOpcode else r) := by
  cases hX : f.isX
  · exact h (opcode_of_code hc hn hX)
  · exact explained_reservedOpcode

theorem Fields.callCode_explained (ho : f.opcode = 0x85) : f.Explained strict next (f.callCode strict) := by
  unfold Fields.callCode
  split
  case h_1 hs | h_2 hs | h_3 hs => exact (reads_call ho (eq_ofNat_of_toNat hs) fun _ => ⟨rfl, rfl, rfl⟩).explained
  case h_4 => exact explained_error ⟨.callHelper 0, ho.symm⟩ _

theorem Fields.decodeJmp64_explained (hc : f.cls = 5) : f.Explained strict next (f.decodeJmp64 strict) := by
  unfold Fields.decodeJmp64
  split
  case h_1 hn => exact noX_explained hc hn fun ho => (reads_ja ho).explained
  case h_9 hn => exact noX_explained hc hn callCode_explained
  case h_10 hn => exact noX_explained hc hn fun ho => (reads_exit ho).explained
  case h_15 => exact explained_reservedOpcode
  all_goals
    rename_i hn
    exact condCode_explained hc hn (fun _ _ _ => ⟨rfl, rfl, rfl⟩) fun _ _ _ => ⟨rfl, rfl, rfl⟩

theorem Fields.decodeJmp32_explained (hc : f.cls = 6) : f.Explained strict next (f.decodeJmp32 strict) := by
  unfold Fields.decodeJmp32
  split
  case h_1 hn => exact noX_explained hc hn fun ho => (reads_imm ho fun _ => ⟨rfl, rfl, rfl⟩).explained
  case h_13 => exact explained_reservedOpcode
  all_goals
    rename_i hn
    exact condCode_explained hc hn (fun _ _ _ => ⟨rfl, rfl, rfl⟩) fun _ _ _ => ⟨rfl, rfl, rfl⟩

end

/-! ### The load and store classes -/

section
variable {f : Fields} {strict : Bool} {next : Option Fields}

theorem Fields.decodeLdx_explained (hc : f.cls = 1) : f.Explained strict next (f.decodeLdx strict) := by
  unfold Fields.decodeLdx
  split
  case h_8 => exact explained_reservedOpcode
  all_goals
    rename_i hm
    exact (reads_both (opcode_of_modeSize hc hm) fun _ _ _ => ⟨rfl, rfl, rfl⟩).explained

theorem Fields.decodeSt_explained (hc : f.cls = 2) : f.Explained strict next (f.decodeSt strict) := by
  unfold Fields.decodeSt
  split
  case h_5 => exact explained_reservedOpcode
  all_goals
    rename_i hm
    exact (reads_st (opcode_of_modeSize hc hm) fun _ _ _ => ⟨rfl, rfl, rfl⟩).explained

theorem Fields.decodeAtomic32_explained (ho : f.opcode = 0xc3) : f.Explained strict next f.decodeAtomic32 := by
  unfold Fields.decodeAtomic32
  split
  case h_11 => exact explained_error ⟨.aadd32 .r0 .r0 0, ho.symm⟩ _
  all_goals
    rename_i hs
    exact (reads_atomic ho (eq_ofNat_of_toNat hs) fun _ _ _ => ⟨rfl, rfl, rfl⟩).explained

theorem Fields.decodeAtomic64_explained (ho : f.opcode = 0xdb) : f.Explained strict next f.decodeAtomic64 := by
  unfold Fields.decodeAtomic64
  split
  case h_11 => exact explained_error ⟨.aadd64 .r0 .r0 0, ho.symm⟩ _
  all_goals
    rename_i hs
    exact (reads_atomic ho (eq_ofNat_of_toNat hs) fun _ _ _ => ⟨rfl, rfl, rfl⟩).explained

theorem Fields.decodeStx_explained (hc : f.cls = 3) : f.Explained strict next (f.decodeStx strict) := by
  unfold Fields.decodeStx
  split
  case h_5 hm => exact decodeAtomic32_explained (opcode_of_modeSize hc hm)
  case h_6 hm => exact decodeAtomic64_explained (opcode_of_modeSize hc hm)
  case h_7 => exact explained_reservedOpcode
  all_goals
    rename_i hm
    exact (reads_both (opcode_of_modeSize hc hm) fun _ _ _ => ⟨rfl, rfl, rfl⟩).explained

theorem Fields.decodeWide_explained (ho : f.opcode = 0x18) :
    f.Explained strict next (f.decodeWide strict next) := by
  have ha : f.Assigned := ⟨.lddw .r0 0 0, ho.symm⟩
  unfold Fields.decodeWide
  split
  case h_1 => exact explained_error ha _
  case h_2 g =>
    split
    case isFalse => exact explained_error ha _
    case isTrue hg =>
      split
      case h_1 hs | h_3 hs | h_7 hs =>
        exact (reads_wideUsing ho (eq_ofNat_of_toNat hs) hg fun _ _ _ => ⟨rfl, rfl, rfl⟩).explained
      case h_2 hs | h_4 hs | h_5 hs | h_6 hs =>
        exact (reads_widePlain ho (eq_ofNat_of_toNat hs) hg fun _ _ => ⟨rfl, rfl, rfl⟩).explained
      case h_8 => exact explained_error ha _

theorem Fields.decodeLd_explained (hc : f.cls = 0) : f.Explained strict next (f.decodeLd strict next) := by
  unfold Fields.decodeLd
  split
  case h_1 hm => exact decodeWide_explained (opcode_of_modeSize hc hm)
  case h_2 hm | h_3 hm | h_4 hm =>
    exact (reads_imm (opcode_of_modeSize hc hm) fun _ => ⟨rfl, rfl, rfl⟩).explained
  case h_5 hm | h_6 hm | h_7 hm =>
    exact (reads_ldInd (opcode_of_modeSize hc hm) fun _ _ => ⟨rfl, rfl, rfl⟩).explained
  case h_8 => exact explained_reservedOpcode

/-- Whatever the decoder answers is right. -/
theorem Fields.decode_explained (f : Fields) (strict : Bool) (next : Option Fields) :
    f.Explained strict next (f.decode strict next) := by
  unfold Fields.decode
  split
  case h_1 hc => exact decodeLd_explained hc
  case h_2 hc => exact decodeLdx_explained hc
  case h_3 hc => exact decodeSt_explained hc
  case h_4 hc => exact decodeStx_explained hc
  case h_5 hc => exact decodeAlu32_explained hc
  case h_6 hc => exact decodeJmp64_explained hc
  case h_7 hc => exact decodeJmp32_explained hc
  case h_8 h0 h1 h2 h3 h4 h5 h6 =>
    have hlt := (f.opcode.extractLsb' 0 3).isLt
    have hc : f.cls = 7 := by
      simp only [imp_false] at h0 h1 h2 h3 h4 h5 h6
      unfold Fields.cls
      omega
    exact decodeAlu64_explained hc

end

/-! ### Decoding what the fields hold

For each format: where the decoder goes on to the format's reader on the opcode byte and the selecting field of an
instruction, fields that hold the instruction decode to it. -/

section
variable {f : Fields} {strict : Bool} {next : Option Fields} {o : BitVec 8} {d r : Reg} {imm : Word32} {off : Offset}

theorem Fields.Holds.decode_aluK {mk : Reg → Word32 → Instr} (h : f.Holds strict next (mk d imm))
    (hk : EncodesK mk o off)
    (hdec : f.opcode = o → f.off = off → f.decode strict next = f.aluK strict mk) :
    f.decode strict next = .ok (mk d imm) := by
  obtain ⟨ho, -, -, hoff, himm⟩ := (hk d imm).holds_iff.mp h
  obtain rfl : f.imm = imm := himm (.inl rfl)
  rw [hdec ho (hoff (.inl rfl))]
  exact (reads_aluK ho (hoff (.inl rfl)) hk).ok ⟨d, rfl⟩ h

theorem Fields.Holds.decode_aluX {mk : Reg → Reg → Instr} (h : f.Holds strict next (mk d r)) (hx : EncodesX mk o off)
    (hdec : f.opcode = o → f.off = off → f.decode strict next = f.aluX strict mk) :
    f.decode strict next = .ok (mk d r) := by
  obtain ⟨ho, -, -, hoff, -⟩ := (hx d r).holds_iff.mp h
  rw [hdec ho (hoff (.inl rfl))]
  exact (reads_aluX ho (hoff (.inl rfl)) hx).ok ⟨d, r, rfl⟩ h

theorem Fields.Holds.decode_aluUnary {mk : Reg → Instr} (h : f.Holds strict next (mk d)) (hu : EncodesUnary mk o)
    (hdec : f.opcode = o → f.off = 0 → f.decode strict next = f.aluUnary strict mk) :
    f.decode strict next = .ok (mk d) := by
  obtain ⟨ho, -, -, hoff, -⟩ := (hu d).holds_iff.mp h
  rw [hdec ho (hoff (.inl rfl))]
  exact (reads_aluUnary ho (hoff (.inl rfl)) hu).ok ⟨d, rfl⟩ h

theorem Fields.Holds.decode_end {mk : Reg → Instr} (h : f.Holds strict next (mk d)) (he : EncodesEnd mk o imm)
    (hdec : f.opcode = o → f.imm = imm → f.decode strict next =
      unusedZero strict (f.src == 0 && f.off == 0) (regField f.dst fun d => .ok (mk d))) :
    f.decode strict next = .ok (mk d) := by
  obtain ⟨ho, -, -, -, himm⟩ := (he d).holds_iff.mp h
  rw [hdec ho (himm (.inl rfl))]
  exact (reads_end ho (himm (.inl rfl)) he).ok ⟨d, rfl⟩ h

theorem Fields.Holds.decode_jmpK {mk : Reg → Word32 → Offset → Instr} (h : f.Holds strict next (mk d imm off))
    (hd : EncodesDst mk o) (hdec : f.opcode = o → f.decode strict next = f.jmpK strict mk) :
    f.decode strict next = .ok (mk d imm off) := by
  obtain ⟨ho, -, -, hoff, himm⟩ := (hd d imm off).holds_iff.mp h
  obtain rfl : f.imm = imm := himm (.inl rfl)
  obtain rfl : f.off = off := hoff (.inl rfl)
  rw [hdec ho]
  exact (reads_jmpK ho hd).ok ⟨d, rfl⟩ h

theorem Fields.Holds.decode_st {mk : Reg → Offset → Word32 → Instr} (h : f.Holds strict next (mk d off imm))
    (hd : EncodesDst (fun d imm off => mk d off imm) o)
    (hdec : f.opcode = o → f.decode strict next = f.st strict mk) :
    f.decode strict next = .ok (mk d off imm) :=
  decode_jmpK (mk := fun d imm off => mk d off imm) h hd hdec

theorem Fields.Holds.decode_both {mk : Reg → Reg → Offset → Instr} (h : f.Holds strict next (mk d r off))
    (hb : EncodesBoth mk o) (hdec : f.opcode = o → f.decode strict next = f.twoRegs strict mk) :
    f.decode strict next = .ok (mk d r off) := by
  obtain ⟨ho, -, -, hoff, -⟩ := (hb d r off).holds_iff.mp h
  obtain rfl : f.off = off := hoff (.inl rfl)
  rw [hdec ho]
  exact (reads_both ho hb).ok ⟨d, r, rfl⟩ h

theorem Fields.Holds.decode_atomic {mk : Reg → Reg → Offset → Instr} (h : f.Holds strict next (mk d r off))
    (ha : EncodesAtomic mk o imm)
    (hdec : f.opcode = o → f.imm = imm → f.decode strict next = f.atomic mk) :
    f.decode strict next = .ok (mk d r off) := by
  obtain ⟨ho, -, -, hoff, himm⟩ := (ha d r off).holds_iff.mp h
  obtain rfl : f.off = off := hoff (.inl rfl)
  rw [hdec ho (himm (.inl rfl))]
  exact (reads_atomic ho (himm (.inl rfl)) ha).ok ⟨d, r, rfl⟩ h

theorem Fields.Holds.decode_call {mk : Word32 → Instr} {subtype : BitVec 4} (h : f.Holds strict next (mk imm))
    (hc : EncodesCall mk o subtype)
    (hdec : f.opcode = o → f.src = subtype →
      f.decode strict next = unusedZero strict (f.dst == 0 && f.off == 0) (.ok (mk f.imm))) :
    f.decode strict next = .ok (mk imm) := by
  obtain ⟨ho, -, hs, -, himm⟩ := (hc imm).holds_iff.mp h
  obtain rfl : f.imm = imm := himm (.inl rfl)
  rw [hdec ho (hs (.inl rfl))]
  exact (reads_call ho (hs (.inl rfl)) hc).ok rfl h

theorem Fields.Holds.decode_imm {mk : Word32 → Instr} (h : f.Holds strict next (mk imm)) (hi : EncodesImm mk o)
    (hdec : f.opcode = o → f.decode strict next = f.ldAbs strict mk) : f.decode strict next = .ok (mk imm) := by
  obtain ⟨ho, -, -, -, himm⟩ := (hi imm).holds_iff.mp h
  obtain rfl : f.imm = imm := himm (.inl rfl)
  rw [hdec ho]
  exact (reads_imm ho hi).ok rfl h

theorem Fields.Holds.decode_ldInd {mk : Reg → Word32 → Instr} (h : f.Holds strict next (mk r imm))
    (hi : EncodesInd mk o) (hdec : f.opcode = o → f.decode strict next = f.ldInd strict mk) :
    f.decode strict next = .ok (mk r imm) := by
  obtain ⟨ho, -, -, -, himm⟩ := (hi r imm).holds_iff.mp h
  obtain rfl : f.imm = imm := himm (.inl rfl)
  rw [hdec ho]
  exact (reads_ldInd ho hi).ok ⟨r, rfl⟩ h

theorem Fields.Holds.decode_wideUsing {mk : Reg → Word32 → Word32 → Instr} {subtype : BitVec 4} {n : Word32}
    (h : f.Holds strict next (mk d imm n)) (hw : EncodesWide mk o subtype)
    (hdec : ∀ g, g.reservedHalfZero = true → f.opcode = o → f.src = subtype →
      f.decode strict (some g) = f.wideUsing strict g.imm mk) :
    f.decode strict next = .ok (mk d imm n) := by
  obtain ⟨g, rfl, hag⟩ := h.second n (hw d imm n).second
  have hg := (agrees_second_iff.mp hag).1
  obtain ⟨⟨ho, -, hs, -, himm⟩, hn⟩ := ((hw d imm n).holds_wide_iff hg).mp h
  obtain rfl : f.imm = imm := himm (.inl rfl)
  obtain rfl : g.imm = n := hn (.inl rfl)
  rw [hdec g hg ho (hs (.inl rfl))]
  exact (reads_wideUsing ho (hs (.inl rfl)) hg hw).ok ⟨d, rfl⟩ h

theorem Fields.Holds.decode_widePlain {mk : Reg → Word32 → Instr} {subtype : BitVec 4}
    (h : f.Holds strict next (mk d imm)) (hw : EncodesWidePlain mk o subtype)
    (hdec : ∀ g, g.reservedHalfZero = true → f.opcode = o → f.src = subtype →
      f.decode strict (some g) = f.widePlain strict g.imm mk) :
    f.decode strict next = .ok (mk d imm) := by
  obtain ⟨g, rfl, hag⟩ := h.second 0 (hw d imm).second
  have hg := (agrees_second_iff.mp hag).1
  obtain ⟨⟨ho, -, hs, -, himm⟩, -⟩ := ((hw d imm).holds_wide_iff hg).mp h
  obtain rfl : f.imm = imm := himm (.inl rfl)
  rw [hdec g hg ho (hs (.inl rfl))]
  exact (reads_widePlain ho (hs (.inl rfl)) hg hw).ok ⟨d, rfl⟩ h

end

section
variable {f : Fields} {strict : Bool} {next : Option Fields} {o : BitVec 8}

theorem Fields.decode_eq_decodeLd (ho : f.opcode = o) (hc : (o.extractLsb' 0 3).toNat = 0) :
    f.decode strict next = f.decodeLd strict next := by
  subst ho
  simp only [Fields.decode, hc]

theorem Fields.decode_eq_decodeLdx (ho : f.opcode = o) (hc : (o.extractLsb' 0 3).toNat = 1) :
    f.decode strict next = f.decodeLdx strict := by
  subst ho
  simp only [Fields.decode, hc]

theorem Fields.decode_eq_decodeSt (ho : f.opcode = o) (hc : (o.extractLsb' 0 3).toNat = 2) :
    f.decode strict next = f.decodeSt strict := by
  subst ho
  simp only [Fields.decode, hc]

theorem Fields.decode_eq_decodeStx (ho : f.opcode = o) (hc : (o.extractLsb' 0 3).toNat = 3) :
    f.decode strict next = f.decodeStx strict := by
  subst ho
  simp only [Fields.decode, hc]

theorem Fields.decode_eq_decodeAlu32 (ho : f.opcode = o) (hc : (o.extractLsb' 0 3).toNat = 4) :
    f.decode strict next = f.decodeAlu32 strict := by
  subst ho
  simp only [Fields.decode, hc]

theorem Fields.decode_eq_decodeJmp64 (ho : f.opcode = o) (hc : (o.extractLsb' 0 3).toNat = 5) :
    f.decode strict next = f.decodeJmp64 strict := by
  subst ho
  simp only [Fields.decode, hc]

theorem Fields.decode_eq_decodeJmp32 (ho : f.opcode = o) (hc : (o.extractLsb' 0 3).toNat = 6) :
    f.decode strict next = f.decodeJmp32 strict := by
  subst ho
  simp only [Fields.decode, hc]

theorem Fields.decode_eq_decodeAlu64 (ho : f.opcode = o) (hc : (o.extractLsb' 0 3).toNat = 7) :
    f.decode strict next = f.decodeAlu64 strict := by
  subst ho
  simp only [Fields.decode, hc]

section
variable {k sk : Reg → Word32 → Instr} {x sx : Reg → Reg → Instr}

theorem Fields.plainCode_k (ho : f.opcode = o) (hX : o.getLsbD 3 = false) (hoff : f.off = 0) :
    f.plainCode strict k x = f.aluK strict k := by
  subst ho
  simp only [Fields.plainCode, Fields.isX, hoff, hX]
  rfl

theorem Fields.plainCode_x (ho : f.opcode = o) (hX : o.getLsbD 3 = true) (hoff : f.off = 0) :
    f.plainCode strict k x = f.aluX strict x := by
  subst ho
  simp only [Fields.plainCode, Fields.isX, hoff, hX]
  rfl

theorem Fields.divCode_k (ho : f.opcode = o) (hX : o.getLsbD 3 = false) (hoff : f.off = 0) :
    f.divCode strict k x sk sx = f.aluK strict k := by
  subst ho
  simp only [Fields.divCode, Fields.isX, hoff, hX]
  rfl

theorem Fields.divCode_x (ho : f.opcode = o) (hX : o.getLsbD 3 = true) (hoff : f.off = 0) :
    f.divCode strict k x sk sx = f.aluX strict x := by
  subst ho
  simp only [Fields.divCode, Fields.isX, hoff, hX]
  rfl

theorem Fields.divCode_sk (ho : f.opcode = o) (hX : o.getLsbD 3 = false) (hoff : f.off = 1) :
    f.divCode strict k x sk sx = f.aluK strict sk := by
  subst ho
  simp only [Fields.divCode, Fields.isX, hoff, hX]
  rfl

theorem Fields.divCode_sx (ho : f.opcode = o) (hX : o.getLsbD 3 = true) (hoff : f.off = 1) :
    f.divCode strict k x sk sx = f.aluX strict sx := by
  subst ho
  simp only [Fields.divCode, Fields.isX, hoff, hX]
  rfl

theorem Fields.condCode_k {k : Reg → Word32 → Offset → Instr} {x : Reg → Reg → Offset → Instr} (ho : f.opcode = o)
    (hX : o.getLsbD 3 = false) : f.condCode strict k x = f.jmpK strict k := by
  subst ho
  simp only [Fields.condCode, Fields.isX, hX]
  rfl

theorem Fields.condCode_x {k : Reg → Word32 → Offset → Instr} {x : Reg → Reg → Offset → Instr} (ho : f.opcode = o)
    (hX : o.getLsbD 3 = true) : f.condCode strict k x = f.twoRegs strict x := by
  subst ho
  simp only [Fields.condCode, Fields.isX, hX]
  rfl

end

end

/-- Fields that hold an instruction decode to it. -/
theorem Fields.Holds.decode_eq {f : Fields} {strict : Bool} {next : Option Fields} {i : Instr}
    (h : f.Holds strict next i) : f.decode strict next = .ok i := by
  cases i
  case add32K | sub32K | mul32K | or32K | and32K | lsh32K | rsh32K | xor32K | arsh32K =>
    refine h.decode_aluK (fun _ _ => ⟨rfl, rfl, rfl⟩) fun ho hoff => ?_
    rw [decode_eq_decodeAlu32 ho rfl, Fields.decodeAlu32, Fields.code, ho]
    exact plainCode_k ho rfl hoff
  case div32K | mod32K =>
    refine h.decode_aluK (fun _ _ => ⟨rfl, rfl, rfl⟩) fun ho hoff => ?_
    rw [decode_eq_decodeAlu32 ho rfl, Fields.decodeAlu32, Fields.code, ho]
    exact divCode_k ho rfl hoff
  case sdiv32K | smod32K =>
    refine h.decode_aluK (fun _ _ => ⟨rfl, rfl, rfl⟩) fun ho hoff => ?_
    rw [decode_eq_decodeAlu32 ho rfl, Fields.decodeAlu32, Fields.code, ho]
    exact divCode_sk ho rfl hoff
  case mov32K =>
    refine h.decode_aluK (fun _ _ => ⟨rfl, rfl, rfl⟩) fun ho hoff => ?_
    rw [decode_eq_decodeAlu32 ho rfl, Fields.decodeAlu32, Fields.code, Fields.isX, ho, hoff]
    rfl
  case add32X | sub32X | mul32X | or32X | and32X | lsh32X | rsh32X | xor32X | arsh32X =>
    refine h.decode_aluX (fun _ _ => ⟨rfl, rfl, rfl⟩) fun ho hoff => ?_
    rw [decode_eq_decodeAlu32 ho rfl, Fields.decodeAlu32, Fields.code, ho]
    exact plainCode_x ho rfl hoff
  case div32X | mod32X =>
    refine h.decode_aluX (fun _ _ => ⟨rfl, rfl, rfl⟩) fun ho hoff => ?_
    rw [decode_eq_decodeAlu32 ho rfl, Fields.decodeAlu32, Fields.code, ho]
    exact divCode_x ho rfl hoff
  case sdiv32X | smod32X =>
    refine h.decode_aluX (fun _ _ => ⟨rfl, rfl, rfl⟩) fun ho hoff => ?_
    rw [decode_eq_decodeAlu32 ho rfl, Fields.decodeAlu32, Fields.code, ho]
    exact divCode_sx ho rfl hoff
  case mov32X | movsx32From8 | movsx32From16 =>
    refine h.decode_aluX (fun _ _ => ⟨rfl, rfl, rfl⟩) fun ho hoff => ?_
    rw [decode_eq_decodeAlu32 ho rfl, Fields.decodeAlu32, Fields.code, Fields.isX, ho, hoff]
    rfl
  case neg32 =>
    refine h.decode_aluUnary (fun _ => ⟨rfl, rfl, rfl⟩) fun ho hoff => ?_
    rw [decode_eq_decodeAlu32 ho rfl, Fields.decodeAlu32, Fields.code, Fields.negCode, Fields.isX, ho, hoff]
    rfl
  case le16 | le32 | le64 | be16 | be32 | be64 =>
    refine h.decode_end (fun _ => ⟨rfl, rfl, rfl⟩) fun ho himm => ?_
    rw [decode_eq_decodeAlu32 ho rfl, Fields.decodeAlu32, Fields.code, Fields.isX, ho]
    simp only [Fields.endCode, himm]
    rfl
  case add64K | sub64K | mul64K | or64K | and64K | lsh64K | rsh64K | xor64K | arsh64K =>
    refine h.decode_aluK (fun _ _ => ⟨rfl, rfl, rfl⟩) fun ho hoff => ?_
    rw [decode_eq_decodeAlu64 ho rfl, Fields.decodeAlu64, Fields.code, ho]
    exact plainCode_k ho rfl hoff
  case div64K | mod64K =>
    refine h.decode_aluK (fun _ _ => ⟨rfl, rfl, rfl⟩) fun ho hoff => ?_
    rw [decode_eq_decodeAlu64 ho rfl, Fields.decodeAlu64, Fields.code, ho]
    exact divCode_k ho rfl hoff
  case sdiv64K | smod64K =>
    refine h.decode_aluK (fun _ _ => ⟨rfl, rfl, rfl⟩) fun ho hoff => ?_
    rw [decode_eq_decodeAlu64 ho rfl, Fields.decodeAlu64, Fields.code, ho]
    exact divCode_sk ho rfl hoff
  case mov64K =>
    refine h.decode_aluK (fun _ _ => ⟨rfl, rfl, rfl⟩) fun ho hoff => ?_
    rw [decode_eq_decodeAlu64 ho rfl, Fields.decodeAlu64, Fields.code, Fields.isX, ho, hoff]
    rfl
  case add64X | sub64X | mul64X | or64X | and64X | lsh64X | rsh64X | xor64X | arsh64X =>
    refine h.decode_aluX (fun _ _ => ⟨rfl, rfl, rfl⟩) fun ho hoff => ?_
    rw [decode_eq_decodeAlu64 ho rfl, Fields.decodeAlu64, Fields.code, ho]
    exact plainCode_x ho rfl hoff
  case div64X | mod64X =>
    refine h.decode_aluX (fun _ _ => ⟨rfl, rfl, rfl⟩) fun ho hoff => ?_
    rw [decode_eq_decodeAlu64 ho rfl, Fields.decodeAlu64, Fields.code, ho]
    exact divCode_x ho rfl hoff
  case sdiv64X | smod64X =>
    refine h.decode_aluX (fun _ _ => ⟨rfl, rfl, rfl⟩) fun ho hoff => ?_
    rw [decode_eq_decodeAlu64 ho rfl, Fields.decodeAlu64, Fields.code, ho]
    exact divCode_sx ho rfl hoff
  case mov64X | movsx64From8 | movsx64From16 | movsx64From32 =>
    refine h.decode_aluX (fun _ _ => ⟨rfl, rfl, rfl⟩) fun ho hoff => ?_
    rw [decode_eq_decodeAlu64 ho rfl, Fields.decodeAlu64, Fields.code, Fields.isX, ho, hoff]
    rfl
  case neg64 =>
    refine h.decode_aluUnary (fun _ => ⟨rfl, rfl, rfl⟩) fun ho hoff => ?_
    rw [decode_eq_decodeAlu64 ho rfl, Fields.decodeAlu64, Fields.code, Fields.negCode, Fields.isX, ho, hoff]
    rfl
  case bswap16 | bswap32 | bswap64 =>
    refine h.decode_end (fun _ => ⟨rfl, rfl, rfl⟩) fun ho himm => ?_
    rw [decode_eq_decodeAlu64 ho rfl, Fields.decodeAlu64, Fields.code, Fields.isX, ho]
    simp only [Fields.endCode, himm]
    rfl
  case ja off =>
    have ho : f.opcode = 0x05 := h.first.opcode
    have hoff : f.off = off := h.first.off (.inl rfl)
    rw [decode_eq_decodeJmp64 ho rfl, Fields.decodeJmp64, Fields.code, Fields.isX, ho]
    exact (reads_ja ho).ok (congrArg _ hoff.symm) h
  case exit =>
    have ho : f.opcode = 0x95 := h.first.opcode
    rw [decode_eq_decodeJmp64 ho rfl, Fields.decodeJmp64, Fields.code, Fields.isX, ho]
    exact (reads_exit ho).ok rfl h
  case callHelper | callLocal | callBtf =>
    refine h.decode_call (fun _ => ⟨rfl, rfl, rfl⟩) fun ho hs => ?_
    rw [decode_eq_decodeJmp64 ho rfl, Fields.decodeJmp64, Fields.code, Fields.isX, Fields.callCode, ho, hs]
    rfl
  case jeq64K | jgt64K | jge64K | jset64K | jne64K | jsgt64K | jsge64K | jlt64K | jle64K | jslt64K | jsle64K =>
    refine h.decode_jmpK (fun _ _ _ => ⟨rfl, rfl, rfl⟩) fun ho => ?_
    rw [decode_eq_decodeJmp64 ho rfl, Fields.decodeJmp64, Fields.code, ho]
    exact condCode_k ho rfl
  case jeq64X | jgt64X | jge64X | jset64X | jne64X | jsgt64X | jsge64X | jlt64X | jle64X | jslt64X | jsle64X =>
    refine h.decode_both (fun _ _ _ => ⟨rfl, rfl, rfl⟩) fun ho => ?_
    rw [decode_eq_decodeJmp64 ho rfl, Fields.decodeJmp64, Fields.code, ho]
    exact condCode_x ho rfl
  case ja32 =>
    refine h.decode_imm (fun _ => ⟨rfl, rfl, rfl⟩) fun ho => ?_
    rw [decode_eq_decodeJmp32 ho rfl, Fields.decodeJmp32, Fields.code, Fields.isX, ho]
    rfl
  case jeq32K | jgt32K | jge32K | jset32K | jne32K | jsgt32K | jsge32K | jlt32K | jle32K | jslt32K | jsle32K =>
    refine h.decode_jmpK (fun _ _ _ => ⟨rfl, rfl, rfl⟩) fun ho => ?_
    rw [decode_eq_decodeJmp32 ho rfl, Fields.decodeJmp32, Fields.code, ho]
    exact condCode_k ho rfl
  case jeq32X | jgt32X | jge32X | jset32X | jne32X | jsgt32X | jsge32X | jlt32X | jle32X | jslt32X | jsle32X =>
    refine h.decode_both (fun _ _ _ => ⟨rfl, rfl, rfl⟩) fun ho => ?_
    rw [decode_eq_decodeJmp32 ho rfl, Fields.decodeJmp32, Fields.code, ho]
    exact condCode_x ho rfl
  case ldxw | ldxh | ldxb | ldxdw | ldxsw | ldxsh | ldxsb =>
    refine h.decode_both (fun _ _ _ => ⟨rfl, rfl, rfl⟩) fun ho => ?_
    rw [decode_eq_decodeLdx ho rfl, Fields.decodeLdx, Fields.modeSize, ho]
    rfl
  case stw | sth | stb | stdw =>
    refine h.decode_st (fun _ _ _ => ⟨rfl, rfl, rfl⟩) fun ho => ?_
    rw [decode_eq_decodeSt ho rfl, Fields.decodeSt, Fields.modeSize, ho]
    rfl
  case stxw | stxh | stxb | stxdw =>
    refine h.decode_both (fun _ _ _ => ⟨rfl, rfl, rfl⟩) fun ho => ?_
    rw [decode_eq_decodeStx ho rfl, Fields.decodeStx, Fields.modeSize, ho]
    rfl
  case aadd32 | aadd32Fetch | aor32 | aor32Fetch | aand32 | aand32Fetch | axor32 | axor32Fetch | axchg32 |
      acmpxchg32 =>
    refine h.decode_atomic (fun _ _ _ => ⟨rfl, rfl, rfl⟩) fun ho himm => ?_
    rw [decode_eq_decodeStx ho rfl, Fields.decodeStx, Fields.modeSize, Fields.decodeAtomic32, ho, himm]
    rfl
  case aadd64 | aadd64Fetch | aor64 | aor64Fetch | aand64 | aand64Fetch | axor64 | axor64Fetch | axchg64 |
      acmpxchg64 =>
    refine h.decode_atomic (fun _ _ _ => ⟨rfl, rfl, rfl⟩) fun ho himm => ?_
    rw [decode_eq_decodeStx ho rfl, Fields.decodeStx, Fields.modeSize, Fields.decodeAtomic64, ho, himm]
    rfl
  case lddw | ldMapValFd | ldMapValIdx =>
    refine h.decode_wideUsing (fun _ _ _ => ⟨rfl, rfl, rfl⟩) fun g hg ho hs => ?_
    rw [decode_eq_decodeLd ho rfl, Fields.decodeLd, Fields.modeSize, ho]
    refine (if_pos hg).trans ?_
    rw [hs]
    rfl
  case ldMapFd | ldVarAddr | ldCodeAddr | ldMapIdx =>
    refine h.decode_widePlain (fun _ _ => ⟨rfl, rfl, rfl⟩) fun g hg ho hs => ?_
    rw [decode_eq_decodeLd ho rfl, Fields.decodeLd, Fields.modeSize, ho]
    refine (if_pos hg).trans ?_
    rw [hs]
    rfl
  case ldabsw | ldabsh | ldabsb =>
    refine h.decode_imm (fun _ => ⟨rfl, rfl, rfl⟩) fun ho => ?_
    rw [decode_eq_decodeLd ho rfl, Fields.decodeLd, Fields.modeSize, ho]
    rfl
  case ldindw | ldindh | ldindb =>
    refine h.decode_ldInd (fun _ _ => ⟨rfl, rfl, rfl⟩) fun ho => ?_
    rw [decode_eq_decodeLd ho rfl, Fields.decodeLd, Fields.modeSize, ho]
    rfl

/-! ### The decoder and the encoder -/

/-- The decoder answers exactly the instructions that the fields hold. -/
theorem Fields.decode_ok_iff {f : Fields} {strict : Bool} {next : Option Fields} {i : Instr} :
    f.decode strict next = .ok i ↔ f.Holds strict next i :=
  ⟨(f.decode_explained strict next).holds i, Holds.decode_eq⟩

theorem decode_ok_iff {e : Endian} {strict : Bool} {slots : List Slot} {i : Instr} :
    decode e strict slots = .ok i ↔
      ∃ x rest, slots = x :: rest ∧ (fieldsOf e x).Holds strict (rest.head?.map (fieldsOf e)) i := by
  cases slots with
  | nil => simp [decode]
  | cons x rest =>
    rw [decode, Fields.decode_ok_iff]
    exact ⟨fun h => ⟨x, rest, rfl, h⟩, by rintro ⟨_, _, ⟨⟩, h⟩; exact h⟩

/-- The encoder leaves 'next_imm' zero where the form does not use it. -/
theorem secondFields_keep {i : Instr} {n : Word32} (h : encodeNext i = some n) :
    (secondFields n).keep (usedFields i).second = secondFields n := by
  cases i <;> cases h <;> rfl

/-- What the encoder writes holds the instruction. -/
theorem encodeFields_holds (i : Instr) (strict : Bool) {next : Option Fields}
    (h : ∀ n, encodeNext i = some n → next = some (secondFields n)) : (encodeFields i).Holds strict next i :=
  ⟨.refl .., fun n hn => ⟨_, h n hn, .refl ..⟩⟩

/-- Settles O52: what the encoder writes holds the instruction. -/
theorem decodeEncode : Obligations.DecodeEncode := by
  intro e strict i rest
  rw [decode_ok_iff, encode]
  split
  · rename_i hn
    exact ⟨_, _, rfl, by rw [fieldsOf_slotOf]; exact encodeFields_holds i strict (by simp [hn])⟩
  · rename_i n hn
    exact ⟨_, _, rfl, by rw [fieldsOf_slotOf]; exact encodeFields_holds i strict (by simp [hn])⟩

/-- Settles O53: under `STRICT_UNUSED` the fields that hold an instruction are the encoder's. -/
theorem decodeSound : Obligations.DecodeSound := by
  intro e slots i h
  obtain ⟨x, rest, rfl, hfirst, hsecond⟩ := decode_ok_iff.mp h
  have hx : x = slotOf e (encodeFields i) := by rw [← hfirst.eq_of_strict, slotOf_fieldsOf]
  rw [encode]
  split
  · exact ⟨rest, by rw [hx]; rfl⟩
  · rename_i n hn
    obtain ⟨g, hg, hag⟩ := hsecond n hn
    obtain ⟨y, hy, rfl⟩ := Option.map_eq_some_iff.mp hg
    obtain ⟨tail, rfl⟩ := List.head?_eq_some_iff.mp hy
    have hy : y = slotOf e (secondFields n) := by rw [← hag.eq_of_strict, slotOf_fieldsOf]
    exact ⟨tail, by rw [hx, hy]; rfl⟩

/-- Settles O58: without `STRICT_UNUSED` fields hold an instruction when they agree with the encoder's where it uses
them. -/
theorem decodeLenient : Obligations.DecodeLenient := by
  intro e slots i
  rw [decode_ok_iff]
  constructor
  · rintro ⟨x, rest, rfl, hfirst, hsecond⟩
    refine ⟨x, rest, rfl, (Fields.agrees_false_iff (encodeFields_keep i)).mp hfirst, fun n hn => ?_⟩
    obtain ⟨g, hg, hag⟩ := hsecond n hn
    obtain ⟨y, hy, rfl⟩ := Option.map_eq_some_iff.mp hg
    exact ⟨y, hy, (Fields.agrees_false_iff (secondFields_keep hn)).mp hag⟩
  · rintro ⟨x, rest, rfl, hfirst, hsecond⟩
    refine ⟨x, rest, rfl, (Fields.agrees_false_iff (encodeFields_keep i)).mpr hfirst, fun n hn => ?_⟩
    obtain ⟨y, hy, hkeep⟩ := hsecond n hn
    exact ⟨_, by rw [hy]; rfl, (Fields.agrees_false_iff (secondFields_keep hn)).mpr hkeep⟩

/-! ### The assigned opcode bytes -/

/-- The decoder does not refuse the opcode byte of a slot that is zero beside it. -/
def opcodeAssigned (o : BitVec 8) : Bool :=
  decide (Fields.decode ⟨o, 0, 0, 0, 0⟩ true none ≠ .error .reservedOpcode)

theorem opcodeAssigned_of_encodeFields {i : Instr} {o : BitVec 8} {d s : BitVec 4} {off : Offset} {imm : Word32}
    (hi : encodeFields i = ⟨o, d, s, off, imm⟩) (ho : opcodeAssigned o = true) :
    opcodeAssigned (encodeFields i).opcode = true := by
  rw [hi, ho]

theorem opcodeAssigned_iff {o : BitVec 8} : opcodeAssigned o = true ↔ ∃ i, (encodeFields i).opcode = o := by
  constructor
  · intro h
    exact (Fields.decode_explained ⟨o, 0, 0, 0, 0⟩ true none).assigned (of_decide_eq_true h)
  · rintro ⟨i, rfl⟩
    cases i <;> exact opcodeAssigned_of_encodeFields rfl (by decide)

/-- The 256 opcode bytes. -/
def opcodeBytes : List (BitVec 8) := (List.finRange 256).map BitVec.ofFin

theorem mem_opcodeBytes (o : BitVec 8) : o ∈ opcodeBytes :=
  List.mem_map.mpr ⟨o.toFin, List.mem_finRange _, rfl⟩

theorem opcodeBytes_nodup : opcodeBytes.Nodup :=
  (List.nodup_finRange 256).map fun _ _ h => congrArg BitVec.toFin h

/-- Settles O55: an answer other than `reservedOpcode` comes with an instruction of that opcode byte. -/
theorem reservedOpcodes : Obligations.ReservedOpcodes := by
  constructor
  · intro f strict next hno
    by_contra hne
    obtain ⟨i, hi⟩ := (f.decode_explained strict next).assigned hne
    exact hno i hi
  · refine ⟨opcodeBytes.filter opcodeAssigned, rfl, opcodeBytes_nodup.filter _, fun o => ?_⟩
    rw [List.mem_filter, opcodeAssigned_iff]
    exact and_iff_right (mem_opcodeBytes o)

/-- Settles O54, by evaluating the decoder and the encoder on the words. -/
theorem encodingExample : Obligations.EncodingExample :=
  ⟨by decide, by decide, by decide, by decide, by decide, by decide, by decide, by decide⟩

end Sys2Proof

namespace Sys2Proof.Machine

/-! ### What the fetch refuses -/

/-- Slots that do not decode, or decode to an instruction that is not legal, are refused. -/
theorem State.fetch_illegal {s : State} (h0 : 0 ≤ s.pc) (hlt : s.pc < s.params.program.length)
    (hw : inSecondSlots false s.params.program s.pc.toNat = false)
    (h : ∀ i, decode s.params.hostEndian s.params.strictUnused (s.params.program.drop s.pc.toNat) = .ok i →
      legal s.params i = false) : s.fetch = .error .illegalInstruction := by
  have hin : ¬ (s.pc < 0 ∨ s.pc ≥ s.params.program.length) := by omega
  simp only [State.fetch, if_neg hin, hw, Bool.false_eq_true, if_false]
  split
  · rfl
  · rename_i i hi
    simp [h i hi]

/-- Settles O41: in both cases the fetch refuses. -/
theorem unsupportedGroupIllegal : Obligations.UnsupportedGroupIllegal := by
  intro s hs h0 hlt hw
  constructor
  · intro err herr
    exact step_of_fetch_error hs (State.fetch_illegal h0 hlt hw fun i hi => by simp [herr] at hi)
  · intro i hi hg
    refine step_of_fetch_error hs (State.fetch_illegal h0 hlt hw fun j hj => ?_)
    obtain rfl : i = j := by simpa [hi] using hj
    simp [legal, supported, hg]

/-- Settles O42: an instruction that writes R10 is not legal under `FP_READONLY`. -/
theorem framePointerWriteIllegal : Obligations.FramePointerWriteIllegal := by
  intro s i
  constructor
  · intro hfp hs h0 hlt hw hi hwr
    refine step_of_fetch_error hs (State.fetch_illegal h0 hlt hw fun j hj => ?_)
    obtain rfl : i = j := by simpa [hi] using hj
    simp [legal, writesFramePointer, hfp, hwr]
  · intro hfp
    simp [wellFormed, legal, supported, writesFramePointer, hfp]

end Sys2Proof.Machine
end

section
/-!
PROOF. The arithmetic instructions (O3 to O10). Each statement is a table of instructions and the values they write: the
whole next state of a form is said once (`binary32K_next` and its like), and what is left of a row is an equation
between the model's value function and the integer arithmetic of the statement, proved for every width.
-/

namespace Sys2Proof.Machine

/-! ### Tables of instructions and values -/

section
variable {P : Instr → Word → Prop} {i : Instr} {v : Word} {rows : List (Instr × Word)}

theorem forall_rows_cons :
    (∀ j w, (j, w) ∈ (i, v) :: rows → P j w) ↔ P i v ∧ ∀ j w, (j, w) ∈ rows → P j w := by
  constructor
  · intro h
    exact ⟨h i v List.mem_cons_self, fun j w hj => h j w (List.mem_cons_of_mem _ hj)⟩
  · rintro ⟨hi, hrows⟩ j w hj
    cases hj with
    | head => exact hi
    | tail _ hj => exact hrows j w hj

theorem forall_rows_nil : (∀ j w, (j, w) ∈ ([] : List (Instr × Word)) → P j w) ↔ True :=
  iff_true_intro fun _ _ h => absurd h List.not_mem_nil

end

/-! ### The whole next state of each form -/

section
variable {s : State} {dst src : Reg} {imm : Word32} {a b v : Word} {v32 : Word32}

theorem binary32K_next (ha : s.reg dst = .written a) {f : Word32 → Word32 → Word32} (hv : f (low32 a) imm = v32) :
    binary32K s dst imm f = .next { s with regs := s.regs.set dst (.written (v32.setWidth 64)), pc := s.pc + 1 } := by
  rw [binary32K_done ha, hv]
  rfl

theorem binary32X_next (ha : s.reg dst = .written a) (hb : s.reg src = .written b) {f : Word32 → Word32 → Word32}
    (hv : f (low32 a) (low32 b) = v32) :
    binary32X s dst src f = .next { s with regs := s.regs.set dst (.written (v32.setWidth 64)), pc := s.pc + 1 } := by
  rw [binary32X_done ha hb, hv]
  rfl

theorem binary64K_next (ha : s.reg dst = .written a) {f : Word → Word → Word} (hv : f a (immSext imm) = v) :
    binary64K s dst imm f = .next { s with regs := s.regs.set dst (.written v), pc := s.pc + 1 } := by
  rw [binary64K_done ha, hv]
  rfl

theorem binary64X_next (ha : s.reg dst = .written a) (hb : s.reg src = .written b) {f : Word → Word → Word}
    (hv : f a b = v) :
    binary64X s dst src f = .next { s with regs := s.regs.set dst (.written v), pc := s.pc + 1 } := by
  rw [binary64X_done ha hb, hv]
  rfl

theorem unary32_next (ha : s.reg dst = .written a) {f : Word32 → Word32} (hv : f (low32 a) = v32) :
    unary32 s dst f = .next { s with regs := s.regs.set dst (.written (v32.setWidth 64)), pc := s.pc + 1 } := by
  rw [unary32_done ha, hv]
  rfl

theorem unary64_next (ha : s.reg dst = .written a) {f : Word → Word} (hv : f a = v) :
    unary64 s dst f = .next { s with regs := s.regs.set dst (.written v), pc := s.pc + 1 } := by
  rw [unary64_done ha, hv]
  rfl

theorem moveSigned32_next (hb : s.reg src = .written b) {n : Nat} (hn : n ≤ 32) :
    moveSigned32 s dst src n =
      .next { s with regs := s.regs.set dst (.written (((b.setWidth n).signExtend 32).setWidth 64)),
                     pc := s.pc + 1 } := by
  rw [moveSigned32_done hb, signExtendLow, low32, BitVec.setWidth_setWidth_of_le b hn]
  rfl

end

/-! ### Shift amounts (`40_alu.md` R106) -/

/-- Where the width is a power of two, the mask takes the amount modulo the width. -/
theorem shiftAmount_two_pow (k : Nat) (b : BitVec (2 ^ k)) : shiftAmount b = b.toNat % 2 ^ k := by
  have hmask : 2 ^ k - 1 < 2 ^ 2 ^ k := (Nat.sub_le _ 1).trans_lt Nat.lt_two_pow_self
  rw [shiftAmount, BitVec.toNat_and, BitVec.toNat_ofNat, Nat.mod_eq_of_lt hmask, Nat.and_two_pow_sub_one_eq_mod]

theorem shiftAmount_word32 (b : Word32) : shiftAmount b = b.toNat % 32 := shiftAmount_two_pow 5 b

theorem shiftAmount_word (b : Word) : shiftAmount b = b.toNat % 64 := shiftAmount_two_pow 6 b

theorem shiftAmount_low32 (b : Word) : shiftAmount (low32 b) = b.toNat % 32 := by
  rw [shiftAmount_word32, low32, BitVec.toNat_setWidth]
  omega

/-- Sign extension adds a multiple of 64, so it leaves the amount as it is. -/
theorem shiftAmount_immSext (imm : Word32) : shiftAmount (immSext imm) = imm.toNat % 64 := by
  rw [shiftAmount_word, immSext, BitVec.toNat_signExtend, BitVec.toNat_setWidth]
  split <;> omega

/-! ### The value functions as integer arithmetic -/

section
variable {w : Nat} {a b : BitVec w} {n : Nat}

theorem mul_eq_ofNat (a b : BitVec w) : a * b = BitVec.ofNat w (a.toNat * b.toNat) :=
  BitVec.eq_of_toNat_eq (by rw [BitVec.toNat_mul, BitVec.toNat_ofNat])

theorem neg_eq_ofInt (a : BitVec w) : -a = BitVec.ofInt w (-(a.toNat : Int)) := by
  rw [BitVec.ofInt_neg, BitVec.ofInt_natCast, BitVec.ofNat_toNat, BitVec.setWidth_eq]

theorem sub_eq_ofInt (a b : BitVec w) : a - b = BitVec.ofInt w ((a.toNat : Int) - b.toNat) := by
  rw [Int.sub_eq_add_neg, BitVec.ofInt_add, ← neg_eq_ofInt, BitVec.ofInt_natCast, BitVec.ofNat_toNat,
    BitVec.setWidth_eq, BitVec.sub_eq_add_neg]

theorem shiftLeft_eq_ofNat (hn : shiftAmount b = n) : shiftLeft a b = BitVec.ofNat w (a.toNat * 2 ^ n) :=
  BitVec.eq_of_toNat_eq (by rw [shiftLeft, hn, BitVec.toNat_shiftLeft, Nat.shiftLeft_eq, BitVec.toNat_ofNat])

theorem shiftRight_eq_ofNat (hn : shiftAmount b = n) : shiftRight a b = BitVec.ofNat w (a.toNat / 2 ^ n) := by
  rw [shiftRight, hn, ← Nat.shiftRight_eq_div_pow, ← BitVec.toNat_ushiftRight, BitVec.ofNat_toNat,
    BitVec.setWidth_eq]

theorem shiftArithmetic_eq_ofInt (hn : shiftAmount b = n) :
    shiftArithmetic a b = BitVec.ofInt w (a.toInt / 2 ^ n) := by
  rw [shiftArithmetic, hn, BitVec.sshiftRight_eq, Int.shiftRight_eq_div_pow, Nat.cast_pow, Nat.cast_ofNat]

theorem divUnsigned_of_ne_zero (hb : b ≠ 0#w) : divUnsigned a b = BitVec.ofNat w (a.toNat / b.toNat) := if_neg hb

theorem modUnsigned_of_ne_zero (hb : b ≠ 0#w) : modUnsigned a b = BitVec.ofNat w (a.toNat % b.toNat) := if_neg hb

theorem divSigned_of_ne_zero (hb : b ≠ 0#w) : divSigned a b = BitVec.ofInt w (a.toInt.tdiv b.toInt) := if_neg hb

theorem modSigned_of_ne_zero (hb : b ≠ 0#w) : modSigned a b = BitVec.ofInt w (a.toInt.tmod b.toInt) := by
  rw [modSigned, if_neg hb, Int.tmod_def]

theorem divUnsigned_of_eq_zero (hb : b = 0#w) : divUnsigned a b = 0#w := if_pos hb

theorem modUnsigned_of_eq_zero (hb : b = 0#w) : modUnsigned a b = a := if_pos hb

theorem divSigned_of_eq_zero (hb : b = 0#w) : divSigned a b = 0#w := if_pos hb

theorem modSigned_of_eq_zero (hb : b = 0#w) : modSigned a b = a := if_pos hb

theorem ne_zero_of_toInt_eq_neg_one (hb : b.toInt = -1) : b ≠ 0#w := fun h => by
  rw [h, BitVec.toInt_zero] at hb
  cases hb

/-- The quotient by -1 is the negation, which takes the most negative value to itself (`40_alu.md` R105). -/
theorem divSigned_intMin_neg_one (ha : a = BitVec.intMin w) (hb : b.toInt = -1) :
    divSigned a b = BitVec.intMin w := by
  rw [divSigned_of_ne_zero (ne_zero_of_toInt_eq_neg_one hb), hb, Int.tdiv_neg, Int.tdiv_one, BitVec.ofInt_neg,
    BitVec.ofInt_toInt, ha, BitVec.neg_intMin]

theorem modSigned_neg_one (hb : b.toInt = -1) : modSigned a b = 0#w := by
  rw [modSigned_of_ne_zero (ne_zero_of_toInt_eq_neg_one hb), hb, Int.tmod_neg, Int.tmod_one]
  exact BitVec.ofInt_natCast w 0

end

/-- The sign-extended immediate is zero only when the immediate is: its signed value is the same. -/
theorem immSext_ne_zero {imm : Word32} (h : imm ≠ 0) : immSext imm ≠ 0 := by
  intro hz
  have hint : (immSext imm).toInt = imm.toInt := BitVec.toInt_signExtend_of_le (by decide)
  rw [hz] at hint
  exact h (BitVec.eq_of_toInt_eq hint.symm)

/-! ### The statements -/

/-- Settles O9: the amounts are those of R106, and each shift is its arithmetic reading at that amount. -/
theorem shiftResult : Obligations.ShiftResult := by
  intro s dst src imm a b ha hb
  simp only [forall_rows_cons, forall_rows_nil, and_true]
  exact ⟨
    binary32K_next ha (shiftLeft_eq_ofNat (shiftAmount_word32 imm)),
    binary32X_next ha hb (shiftLeft_eq_ofNat (shiftAmount_low32 b)),
    binary64K_next ha (shiftLeft_eq_ofNat (shiftAmount_immSext imm)),
    binary64X_next ha hb (shiftLeft_eq_ofNat (shiftAmount_word b)),
    binary32K_next ha (shiftRight_eq_ofNat (shiftAmount_word32 imm)),
    binary32X_next ha hb (shiftRight_eq_ofNat (shiftAmount_low32 b)),
    binary64K_next ha (shiftRight_eq_ofNat (shiftAmount_immSext imm)),
    binary64X_next ha hb (shiftRight_eq_ofNat (shiftAmount_word b)),
    binary32K_next ha (shiftArithmetic_eq_ofInt (shiftAmount_word32 imm)),
    binary32X_next ha hb (shiftArithmetic_eq_ofInt (shiftAmount_low32 b)),
    binary64K_next ha (shiftArithmetic_eq_ofInt (shiftAmount_immSext imm)),
    binary64X_next ha hb (shiftArithmetic_eq_ofInt (shiftAmount_word b))⟩

/-- Settles O3: the bit-vector operators are integer arithmetic modulo the width. -/
theorem addSubMulNegResult : Obligations.AddSubMulNegResult := by
  intro s dst src imm a b ha hb
  simp only [forall_rows_cons, forall_rows_nil, and_true]
  exact ⟨
    binary32K_next ha (BitVec.add_def _ _), binary32X_next ha hb (BitVec.add_def _ _),
    binary64K_next ha (BitVec.add_def _ _), binary64X_next ha hb (BitVec.add_def _ _),
    binary32K_next ha (sub_eq_ofInt _ _), binary32X_next ha hb (sub_eq_ofInt _ _),
    binary64K_next ha (sub_eq_ofInt _ _), binary64X_next ha hb (sub_eq_ofInt _ _),
    binary32K_next ha (mul_eq_ofNat _ _), binary32X_next ha hb (mul_eq_ofNat _ _),
    binary64K_next ha (mul_eq_ofNat _ _), binary64X_next ha hb (mul_eq_ofNat _ _),
    unary32_next ha (neg_eq_ofInt _), unary64_next ha (neg_eq_ofInt _)⟩

/-- Settles O4: the branch of `DIV` and `MOD` for a divisor that is not zero. -/
theorem divModResult : Obligations.DivModResult := by
  intro s dst src imm a b ha hb
  simp only [forall_rows_cons, forall_rows_nil, and_true]
  refine ⟨fun himm => ?kForms, fun hb32 => ?x32Forms, fun hb64 => ?x64Forms⟩
  case kForms =>
    have hk := immSext_ne_zero himm
    exact ⟨binary32K_next ha (divUnsigned_of_ne_zero himm), binary32K_next ha (modUnsigned_of_ne_zero himm),
      binary64K_next ha (divUnsigned_of_ne_zero hk), binary64K_next ha (modUnsigned_of_ne_zero hk)⟩
  case x32Forms =>
    exact ⟨binary32X_next ha hb (divUnsigned_of_ne_zero hb32), binary32X_next ha hb (modUnsigned_of_ne_zero hb32)⟩
  case x64Forms =>
    exact ⟨binary64X_next ha hb (divUnsigned_of_ne_zero hb64), binary64X_next ha hb (modUnsigned_of_ne_zero hb64)⟩

/-- Settles O5: the branch of `SDIV` and `SMOD` for a divisor that is not zero. -/
theorem sdivSmodResult : Obligations.SdivSmodResult := by
  intro s dst src imm a b ha hb
  simp only [forall_rows_cons, forall_rows_nil, and_true]
  refine ⟨fun himm => ?kForms, fun hb32 => ?x32Forms, fun hb64 => ?x64Forms⟩
  case kForms =>
    have hk := immSext_ne_zero himm
    exact ⟨binary32K_next ha (divSigned_of_ne_zero himm), binary32K_next ha (modSigned_of_ne_zero himm),
      binary64K_next ha (divSigned_of_ne_zero hk), binary64K_next ha (modSigned_of_ne_zero hk)⟩
  case x32Forms =>
    exact ⟨binary32X_next ha hb (divSigned_of_ne_zero hb32), binary32X_next ha hb (modSigned_of_ne_zero hb32)⟩
  case x64Forms =>
    exact ⟨binary64X_next ha hb (divSigned_of_ne_zero hb64), binary64X_next ha hb (modSigned_of_ne_zero hb64)⟩

/-- Settles O6: the branch for a zero divisor; the immediate 0 is 0 in both widths. -/
theorem divisionByZero : Obligations.DivisionByZero := by
  intro s dst src a b ha hb
  simp only [forall_rows_cons, forall_rows_nil, and_true]
  refine ⟨?kForms, fun hb32 => ?x32Forms, fun hb64 => ?x64Forms⟩
  case kForms =>
    have hk : immSext 0 = 0 := rfl
    exact ⟨binary32K_next ha (divUnsigned_of_eq_zero rfl), binary32K_next ha (divSigned_of_eq_zero rfl),
      binary64K_next ha (divUnsigned_of_eq_zero hk), binary64K_next ha (divSigned_of_eq_zero hk),
      binary32K_next ha (modUnsigned_of_eq_zero rfl), binary32K_next ha (modSigned_of_eq_zero rfl),
      binary64K_next ha (modUnsigned_of_eq_zero hk), binary64K_next ha (modSigned_of_eq_zero hk)⟩
  case x32Forms =>
    exact ⟨binary32X_next ha hb (divUnsigned_of_eq_zero hb32), binary32X_next ha hb (divSigned_of_eq_zero hb32),
      binary32X_next ha hb (modUnsigned_of_eq_zero hb32), binary32X_next ha hb (modSigned_of_eq_zero hb32)⟩
  case x64Forms =>
    exact ⟨binary64X_next ha hb (divUnsigned_of_eq_zero hb64), binary64X_next ha hb (divSigned_of_eq_zero hb64),
      binary64X_next ha hb (modUnsigned_of_eq_zero hb64), binary64X_next ha hb (modSigned_of_eq_zero hb64)⟩

/-- Settles O7: the dividend is `BitVec.intMin` of the width, and the signed value of the divisor is -1. -/
theorem signedDivisionOverflow : Obligations.SignedDivisionOverflow := by
  intro s dst src a b ha hb
  simp only [forall_rows_cons, forall_rows_nil, and_true]
  refine ⟨fun ha32 => ?k32, fun ha32 hb32 => ?x32, fun ha64 => ?k64, fun ha64 hb64 => ?x64⟩
  case k32 =>
    have hk : (0xffffffff#32).toInt = -1 := rfl
    exact ⟨binary32K_next ha (divSigned_intMin_neg_one ha32 hk), binary32K_next ha (modSigned_neg_one hk)⟩
  case x32 =>
    have hb1 : (low32 b).toInt = -1 := congrArg BitVec.toInt hb32
    exact ⟨binary32X_next ha hb (divSigned_intMin_neg_one ha32 hb1), binary32X_next ha hb (modSigned_neg_one hb1)⟩
  case k64 =>
    have hk : (immSext 0xffffffff#32).toInt = -1 := rfl
    exact ⟨binary64K_next ha (divSigned_intMin_neg_one ha64 hk), binary64K_next ha (modSigned_neg_one hk)⟩
  case x64 =>
    have hb1 : b.toInt = -1 := congrArg BitVec.toInt hb64
    exact ⟨binary64X_next ha hb (divSigned_intMin_neg_one ha64 hb1), binary64X_next ha hb (modSigned_neg_one hb1)⟩

/-- Settles O8: the model's operators are those of the statement. -/
theorem bitwiseResult : Obligations.BitwiseResult := by
  intro s dst src imm a b ha hb
  simp only [forall_rows_cons, forall_rows_nil, and_true]
  exact ⟨
    binary32K_next ha rfl, binary32X_next ha hb rfl, binary64K_next ha rfl, binary64X_next ha hb rfl,
    binary32K_next ha rfl, binary32X_next ha hb rfl, binary64K_next ha rfl, binary64X_next ha hb rfl,
    binary32K_next ha rfl, binary32X_next ha hb rfl, binary64K_next ha rfl, binary64X_next ha hb rfl⟩

/-- Settles O10: no form reads the destination. -/
theorem moveResult : Obligations.MoveResult := by
  intro s dst src imm b
  simp only [forall_rows_cons, forall_rows_nil, and_true]
  exact ⟨⟨rfl, rfl⟩, fun hb => ⟨move32X_done hb, move64X_done hb, moveSigned32_next hb (by decide),
    moveSigned32_next hb (by decide), moveSigned64_done hb, moveSigned64_done hb, moveSigned64_done hb⟩⟩

end Sys2Proof.Machine
end

section
/-!
PROOF. A byte swap applied twice (O12): as a list of bytes is recovered from the number it makes, reversing the low bytes
twice keeps them, at every width up to that of a register.
-/

namespace Sys2Proof.Machine

/-! ### Conversions applied twice -/

/-- The bytes of the number that bytes make are those bytes. -/
theorem bytesOf_ofBytes (bs : List Byte) : bytesOf bs.length (ofBytes bs) = bs := by
  induction bs with
  | nil => rfl
  | cons b bs ih =>
    have hlt := b.isLt
    have hhead : BitVec.ofNat 8 (b.toNat + 256 * ofBytes bs) = b := BitVec.eq_of_toNat_eq (by simp; omega)
    have htail : (b.toNat + 256 * ofBytes bs) / 256 = ofBytes bs := by omega
    rw [List.length_cons, ofBytes, bytesOf, hhead, htail, ih]

/-- At most eight bytes fit a register: the zero-extended reversal is the number that the reversed bytes make. -/
theorem reverseBytes_toNat {n : Nat} (hn : n ≤ 8) (v : Word) :
    (reverseBytes n v).toNat = ofBytes (bytesOf n v.toNat).reverse := by
  have hlt : ofBytes (bytesOf n v.toNat).reverse < 256 ^ n := by
    simpa using ofBytes_lt (bytesOf n v.toNat).reverse
  have hfit : 256 ^ n ≤ 2 ^ 64 := Nat.pow_le_pow_right (by decide) hn
  rw [reverseBytes, BitVec.toNat_ofNat, Nat.mod_eq_of_lt (hlt.trans_le hfit)]

theorem reverseBytes_reverseBytes {n : Nat} (hn : n ≤ 8) (v : Word) :
    reverseBytes n (reverseBytes n v) = lowBytes n v := by
  have hbytes : bytesOf n (reverseBytes n v).toNat = (bytesOf n v.toNat).reverse := by
    rw [reverseBytes_toNat hn]
    simpa using bytesOf_ofBytes (bytesOf n v.toNat).reverse
  rw [reverseBytes, hbytes, List.reverse_reverse, ofBytes_bytesOf, lowBytes]

theorem lowBytes_lowBytes {n : Nat} (hn : n ≤ 8) (v : Word) : lowBytes n (lowBytes n v) = lowBytes n v := by
  have hdvd : 256 ^ n ∣ 2 ^ 64 := pow_dvd_pow 256 hn
  rw [lowBytes, lowBytes, BitVec.toNat_ofNat, Nat.mod_mod_of_dvd _ hdvd, Nat.mod_mod]

theorem toLittle_toLittle (e : Endian) {n : Nat} (hn : n ≤ 8) (v : Word) :
    toLittle e n (toLittle e n v) = lowBytes n v := by
  cases e with
  | little => exact lowBytes_lowBytes hn v
  | big => exact reverseBytes_reverseBytes hn v

theorem toBig_toBig (e : Endian) {n : Nat} (hn : n ≤ 8) (v : Word) : toBig e n (toBig e n v) = lowBytes n v := by
  cases e with
  | little => exact reverseBytes_reverseBytes hn v
  | big => exact lowBytes_lowBytes hn v

/-! ### Instructions executed twice -/

/-- An instruction that swaps by `f` executes twice in a row: the first execution leaves the destination written and the
launch parameters, with them the byte order of the host, as they were. -/
theorem exec_swapBytes_twice {s : State} {i : Instr} {dst : Reg} {n : Nat} {a : Word} (ha : s.reg dst = .written a)
    (f : Word → Word) (hexec : ∀ t, t.params = s.params → exec i t = swapBytes t dst f)
    (hf : f (f a) = lowBytes n a) :
    ∃ t u, exec i s = .next t ∧ exec i t = .next u ∧
      u.reg dst = .written ((a.setWidth (8 * n)).setWidth 64) ∧ u.pc = s.pc + 2 := by
  have hwritten : (s.finish dst (f a)).reg dst = .written (f a) := Regs.get_set_self _ _ _
  refine ⟨s.finish dst (f a), (s.finish dst (f a)).finish dst (f (f a)), ?first, ?second, ?value, ?pc⟩
  case first => rw [hexec s rfl, swapBytes_done ha]
  case second => rw [hexec _ (State.finish_params ..), swapBytes_done hwritten]
  case value =>
    rw [← lowBytes_eq_setWidth, ← hf]
    exact Regs.get_set_self _ _ _
  case pc => exact Int.add_assoc s.pc 1 1

/-- Settles O12: each swap is `toLittle`, `toBig` or `reverseBytes` at its width, and twice each keeps the low bytes. -/
theorem byteSwapTwice : Obligations.ByteSwapTwice := by
  intro s dst a ha i n hi
  simp only [List.mem_cons, Prod.mk.injEq, List.not_mem_nil, or_false] at hi
  obtain ⟨rfl, rfl⟩ | ⟨rfl, rfl⟩ | ⟨rfl, rfl⟩ | ⟨rfl, rfl⟩ | ⟨rfl, rfl⟩ | ⟨rfl, rfl⟩ | ⟨rfl, rfl⟩ | ⟨rfl, rfl⟩ |
    ⟨rfl, rfl⟩ := hi
  · exact exec_swapBytes_twice ha _ (fun _ ht => ht ▸ rfl) (toLittle_toLittle s.params.hostEndian (n := 2) (by decide) a)
  · exact exec_swapBytes_twice ha _ (fun _ ht => ht ▸ rfl) (toLittle_toLittle s.params.hostEndian (n := 4) (by decide) a)
  · exact exec_swapBytes_twice ha _ (fun _ ht => ht ▸ rfl) (toLittle_toLittle s.params.hostEndian (n := 8) (by decide) a)
  · exact exec_swapBytes_twice ha _ (fun _ ht => ht ▸ rfl) (toBig_toBig s.params.hostEndian (n := 2) (by decide) a)
  · exact exec_swapBytes_twice ha _ (fun _ ht => ht ▸ rfl) (toBig_toBig s.params.hostEndian (n := 4) (by decide) a)
  · exact exec_swapBytes_twice ha _ (fun _ ht => ht ▸ rfl) (toBig_toBig s.params.hostEndian (n := 8) (by decide) a)
  · exact exec_swapBytes_twice ha _ (fun _ _ => rfl) (reverseBytes_reverseBytes (n := 2) (by decide) a)
  · exact exec_swapBytes_twice ha _ (fun _ _ => rfl) (reverseBytes_reverseBytes (n := 4) (by decide) a)
  · exact exec_swapBytes_twice ha _ (fun _ _ => rfl) (reverseBytes_reverseBytes (n := 8) (by decide) a)

end Sys2Proof.Machine
end

section
/-!
PROOF. Jumps (O13 to O15), the bound on call depth (O17), the nested return (O19) and helper calls (O21, O22). The whole
next state of a branch, of a return and of a helper call is said once; each statement picks the case its hypotheses
name.
-/

namespace Sys2Proof.Machine

/-! ### Conditional jumps -/

/-- A claim about every row of a table, as one about the table's elements. -/
theorem forall_mem_pairs {α β : Type} {P : α → β → Prop} {rows : List (α × β)} :
    (∀ i v, (i, v) ∈ rows → P i v) ↔ ∀ row ∈ rows, P row.1 row.2 :=
  (Prod.forall (p := fun row => row ∈ rows → P row.1 row.2)).symm

section
variable {s : State} {dst src : Reg} {imm : Word32} {off : Offset} {a b : Word}

theorem branch64K_next (ha : s.reg dst = .written a) (cond : Word → Word → Bool) :
    branch64K s dst imm off cond =
      .next { s with pc := if cond a (immSext imm) then s.pc + 1 + off.toInt else s.pc + 1 } := by
  rw [branch64K_done ha, State.branch_eq]

theorem branch64X_next (ha : s.reg dst = .written a) (hb : s.reg src = .written b) (cond : Word → Word → Bool) :
    branch64X s dst src off cond =
      .next { s with pc := if cond a b then s.pc + 1 + off.toInt else s.pc + 1 } := by
  rw [branch64X_done ha hb, State.branch_eq]

theorem branch32K_next (ha : s.reg dst = .written a) (cond : Word32 → Word32 → Bool) :
    branch32K s dst imm off cond =
      .next { s with pc := if cond (low32 a) imm then s.pc + 1 + off.toInt else s.pc + 1 } := by
  rw [branch32K_done ha, State.branch_eq]

theorem branch32X_next (ha : s.reg dst = .written a) (hb : s.reg src = .written b) (cond : Word32 → Word32 → Bool) :
    branch32X s dst src off cond =
      .next { s with pc := if cond (low32 a) (low32 b) then s.pc + 1 + off.toInt else s.pc + 1 } := by
  rw [branch32X_done ha hb, State.branch_eq]

end

/-! ### The largest call depth and the nested return -/

theorem State.atMaxDepth_of_length_eq {s : State} {limit : Nat} (hmax : s.params.maxCallDepth = some limit)
    (hlen : s.frames.length = limit) : s.atMaxDepth = true := by
  simp [State.atMaxDepth, hmax, hlen]

theorem exec_callLocal_atMaxDepth {s : State} (imm : Word32) (h : s.atMaxDepth = true) :
    exec (.callLocal imm) s = raise s .callDepthExceeded :=
  if_pos h

theorem State.popFrame_unsaved {s : State} {f : Frame} (h : f.saved = none) (rest : List Frame) :
    s.popFrame f rest = { s with frames := rest } := by
  simp only [State.popFrame, h]

/-! ### Helper calls (`42_jump.md` R275, R276) -/

/-- A byte at an address the helper does not write reads as before. -/
theorem Memory.get_setAll_of_ne (m : Memory) (ws : List (Word × Byte)) {a : Nat} (h : ∀ w ∈ ws, w.1.toNat ≠ a) :
    (m.setAll ws).get a = m.get a := by
  induction ws generalizing m with
  | nil => rfl
  | cons w ws ih =>
    obtain ⟨hw, hws⟩ := List.forall_mem_cons.mp h
    rw [Memory.setAll, ih _ hws, Memory.get_set_ne _ _ hw.symm]

/-- With all of them written, registers are read in order and their values go on. -/
theorem withRegs_written {s : State} {rs : List Reg} {values : List Word}
    (h : rs.map s.reg = values.map Cell.written) (k : List Word → Out) : withRegs s rs k = k values := by
  obtain ⟨vs, hvs, hk⟩ | ⟨r, hr, hu, _⟩ := withRegs_cases s rs k
  · have hvalues : vs = values := List.map_injective_iff.mpr (fun _ _ => Cell.written.inj) (hvs.symm.trans h)
    rw [hk, hvalues]
  · have hwritten : s.reg r ∈ values.map Cell.written := h ▸ List.mem_map_of_mem hr
    simp [hu] at hwritten

section
variable {s : State} {kind : CallKind} {imm : Word32} {h : Helper} {values : List Word}

theorem helperRefuses_of_never (hr : h.refusing = .never) : helperRefuses h kind imm values s = false := by
  simp only [helperRefuses, hr]

theorem helperRefuses_of_always (hr : h.refusing = .always) : helperRefuses h kind imm values s = true := by
  simp only [helperRefuses, hr]

theorem helperRefuses_of_platform (hr : h.refusing = .platform) :
    helperRefuses h kind imm values s = Config.helperRefuses kind imm values s.mem s.plat s.draws := by
  simp only [helperRefuses, hr]

/-- With the id known and the argument registers written, only the refusal decides what a helper call answers. -/
theorem callHelper_known (hid : s.params.helper kind imm = some h)
    (hargs : (argumentRegs h.arity.val).map s.reg = values.map Cell.written) :
    callHelper kind imm s =
      if helperRefuses h kind imm values s then raise s (.helperFault imm)
      else .next (s.helperReturn (Config.helperAnswer kind imm values s.mem s.plat s.draws)) := by
  simp only [callHelper, hid, withRegs_written hargs]

theorem callHelper_refused (hid : s.params.helper kind imm = some h)
    (hargs : (argumentRegs h.arity.val).map s.reg = values.map Cell.written)
    (hr : helperRefuses h kind imm values s = true) :
    callHelper kind imm s = raise s (.helperFault imm) := by
  rw [callHelper_known hid hargs, if_pos hr]

theorem callHelper_done (hid : s.params.helper kind imm = some h)
    (hargs : (argumentRegs h.arity.val).map s.reg = values.map Cell.written)
    (hr : helperRefuses h kind imm values s = false) :
    callHelper kind imm s = .next (s.helperReturn (Config.helperAnswer kind imm values s.mem s.plat s.draws)) := by
  rw [callHelper_known hid hargs, hr, if_neg Bool.false_ne_true]

end

/-! ### The statements -/

/-- Settles O13: both jumps are `jumpTo` at a signed distance from the next slot. -/
theorem unconditionalJump : Obligations.UnconditionalJump :=
  fun _ _ _ => ⟨rfl, rfl⟩

/-- Settles O14: each jump is the branch of its form on the condition its name says. -/
theorem conditionalJump64 : Obligations.ConditionalJump64 := by
  intro s dst src imm off a b ha hb
  simp only [forall_mem_pairs, List.forall_mem_cons, List.not_mem_nil, false_imp_iff, implies_true, and_true]
  exact ⟨
    branch64K_next ha condEq, branch64K_next ha condGt, branch64K_next ha condGe, branch64K_next ha condSet,
    branch64K_next ha condNe, branch64K_next ha condSgt, branch64K_next ha condSge, branch64K_next ha condLt,
    branch64K_next ha condLe, branch64K_next ha condSlt, branch64K_next ha condSle,
    branch64X_next ha hb condEq, branch64X_next ha hb condGt, branch64X_next ha hb condGe, branch64X_next ha hb condSet,
    branch64X_next ha hb condNe, branch64X_next ha hb condSgt, branch64X_next ha hb condSge, branch64X_next ha hb condLt,
    branch64X_next ha hb condLe, branch64X_next ha hb condSlt, branch64X_next ha hb condSle⟩

/-- Settles O15: the same on the low halves. -/
theorem conditionalJump32 : Obligations.ConditionalJump32 := by
  intro s dst src imm off a b ha hb
  simp only [forall_mem_pairs, List.forall_mem_cons, List.not_mem_nil, false_imp_iff, implies_true, and_true]
  exact ⟨
    branch32K_next ha condEq, branch32K_next ha condGt, branch32K_next ha condGe, branch32K_next ha condSet,
    branch32K_next ha condNe, branch32K_next ha condSgt, branch32K_next ha condSge, branch32K_next ha condLt,
    branch32K_next ha condLe, branch32K_next ha condSlt, branch32K_next ha condSle,
    branch32X_next ha hb condEq, branch32X_next ha hb condGt, branch32X_next ha hb condGe, branch32X_next ha hb condSet,
    branch32X_next ha hb condNe, branch32X_next ha hb condSgt, branch32X_next ha hb condSge, branch32X_next ha hb condLt,
    branch32X_next ha hb condLe, branch32X_next ha hb condSlt, branch32X_next ha hb condSle⟩

/-- Settles O17: the depth check comes before the frame is pushed, and an infinite limit is never reached. -/
theorem callDepthBound : Obligations.CallDepthBound := by
  refine ⟨fun s imm limit hmax hlen => ?atLimit, fun s imm hmax => ?unlimited, rfl⟩
  case atLimit => exact exec_callLocal_atMaxDepth imm (State.atMaxDepth_of_length_eq hmax hlen)
  case unlimited =>
    have hbelow : s.atMaxDepth = false := State.atMaxDepth_eq_false_iff.mpr (by simp [hmax])
    obtain ⟨f, hframes, _, _⟩ := s.pushFrame_frames (s.pc + 1)
    exact ⟨_, exec_callLocal_below imm hbelow, by simp, by simp [hframes]⟩

/-- Settles O19: the registers are those of the frame's case of `popFrame`. -/
theorem returnResult : Obligations.ReturnResult := by
  intro s ret rest
  refine ⟨fun sv hf => ?saved, fun hf => ?unsaved⟩
  case saved =>
    rw [exec_exit_frame hf, State.popFrame_saved rfl]
    rfl
  case unsaved =>
    rw [exec_exit_frame hf, State.popFrame_unsaved rfl]
    rfl

/-- Settles O21: neither hypothesis lets the helper refuse, so the call takes its answer. -/
theorem helperCallResult : Obligations.HelperCallResult := by
  intro s kind imm h values hid hrefusing hargs i ans
  have hexec : exec i s = callHelper kind imm s := by cases kind <;> rfl
  have hr : helperRefuses h kind imm values s = false := by
    obtain hnever | ⟨hplatform, hallows⟩ := hrefusing
    · exact helperRefuses_of_never hnever
    · rw [helperRefuses_of_platform hplatform, hallows]
  refine ⟨?state, fun a ha => Memory.get_setAll_of_ne _ _ ha⟩
  rw [hexec, callHelper_done hid hargs hr]
  rfl

/-- Settles O22: a refusal is the one fault left once the id is known and the arguments are read. -/
theorem helperRefusal : Obligations.HelperRefusal := by
  intro s kind imm h values hid hargs i refused
  have hexec : exec i s = callHelper kind imm s := by cases kind <;> rfl
  refine ⟨fun halways => ?always, fun hplatform => ?platform⟩
  case always => exact hexec.trans (callHelper_refused hid hargs (helperRefuses_of_always halways))
  case platform =>
    have hr := helperRefuses_of_platform (s := s) (kind := kind) (imm := imm) (values := values) hplatform
    split
    next href => exact hexec.trans (callHelper_refused hid hargs (hr.trans href))
    next hallows =>
      exact ⟨_, hexec.trans (callHelper_done hid hargs (hr.trans (Bool.eq_false_of_not_eq_true hallows))), rfl, rfl⟩

end Sys2Proof.Machine
end

section
/-!
PROOF. The 64-bit immediate instructions (O33, O34). All seven write one value and go two slots on. The six address forms
are `loadAddress` of what a platform function gives; the two value forms ask two of those functions in turn.
-/

namespace Sys2Proof.Machine

section
variable {s : State}

theorem loadWide_next (dst : Reg) (v : Word) :
    loadWide s dst v = .next { s with regs := s.regs.set dst (.written v), pc := s.pc + 2 } := rfl

theorem loadAddress_next {address : Option Word} {v : Word} (dst : Reg) (h : address = some v) :
    loadAddress s dst address = .next { s with regs := s.regs.set dst (.written v), pc := s.pc + 2 } :=
  (loadAddress_some h).trans (loadWide_next dst v)

/-- The address of a map's value is defined where the map and its value area are; `next_imm` counts as signed (R354,
R358). -/
theorem mapValue_eq_bind (map : Option Word) (nextImm : Word32) :
    mapValue s map nextImm =
      map.bind fun m => (lookup s.params.mapVal m).map fun area => area + nextImm.signExtend 64 := by
  cases map with
  | none => rfl
  | some m =>
    rw [mapValue, Option.bind_some]
    cases lookup s.params.mapVal m <;> rfl

end

/-- Settles O33: the constant is `wideConstant`, the concatenation of the two halves. -/
theorem lddwResult : Obligations.LddwResult :=
  fun _ dst imm nextImm => loadWide_next dst (wideConstant imm nextImm)

/-- Settles O34: each form is `loadAddress` of its own platform function, the two value forms of `mapValue`. -/
theorem addressResult : Obligations.AddressResult := by
  intro s dst imm nextImm
  simp only [forall_mem_pairs, List.forall_mem_cons, List.not_mem_nil, false_imp_iff, implies_true, and_true]
  refine ⟨?mapFd, ?mapValFd, ?varAddr, ?codeAddr, ?mapIdx, ?mapValIdx⟩
  case mapFd | varAddr | codeAddr | mapIdx => exact fun _ h => loadAddress_next dst h
  case mapValFd | mapValIdx => exact fun _ h => loadAddress_next dst ((mapValue_eq_bind _ nextImm).trans h)

end Sys2Proof.Machine
end

section
/-!
PROOF. The legacy packet instructions (O36). All six are `legacyPacket`, which looks at nothing but the group `packet`: it
reads no register, and either way it raises.
-/

namespace Sys2Proof.Machine

section
variable {s : State}

theorem legacyPacket_supported (h : s.params.groups.packet = true) : legacyPacket s = raise s .unsupported := if_pos h

theorem legacyPacket_unsupported (h : s.params.groups.packet = false) : legacyPacket s = raise s .illegalInstruction :=
  if_neg (Bool.eq_false_iff.mp h)

/-- The meaning the six forms share: neither the source register nor the immediate stands on the right. -/
theorem exec_eq_legacyPacket {src : Reg} {imm : Word32} :
    ∀ i ∈ ([.ldabsw imm, .ldabsh imm, .ldabsb imm, .ldindw src imm, .ldindh src imm, .ldindb src imm] : List Instr),
      exec i s = legacyPacket s := by
  simp only [List.forall_mem_cons, List.not_mem_nil, false_imp_iff, implies_true, and_true]
  exact ⟨rfl, rfl, rfl, rfl, rfl, rfl⟩

end

/-- Settles O36: each form is `legacyPacket`, and a fault changes the status alone (`raise_eq`). -/
theorem legacyPacketStops : Obligations.LegacyPacketStops := by
  intro s src imm i hi
  have hexec : exec i s = legacyPacket s := exec_eq_legacyPacket i hi
  refine ⟨fun hin => ?supported, fun hout => ?unsupported⟩
  case supported => rw [hexec, legacyPacket_supported hin, raise_eq]
  case unsupported => rw [hexec, legacyPacket_unsupported hout, raise_eq]

end Sys2Proof.Machine
end

section
/-!
PROOF. The faults (O23, O27, O35, O37, O39, O40, O44). Each fault is one branch of a shared operation: of the register
reads, of the access, of the fetch, of the helper call or of the address forms. What a fault leaves is the case `raised`
of `Effect`, the only one that faults a running state.
-/

namespace Sys2Proof.Machine

/-! ### The fetch (`60_exceptions.md` R383, R385) -/

theorem State.fetch_pcOutOfRange {s : State} (h : s.pc < 0 ∨ s.pc ≥ s.params.program.length) :
    s.fetch = .error (.pcOutOfRange s.pc) :=
  if_pos h

theorem State.fetch_jumpIntoWide {s : State} (h0 : 0 ≤ s.pc) (hlt : s.pc < s.params.program.length)
    (hw : inSecondSlots false s.params.program s.pc.toNat = true) : s.fetch = .error .jumpIntoWide := by
  have hin : ¬ (s.pc < 0 ∨ s.pc ≥ s.params.program.length) := by omega
  rw [State.fetch, if_neg hin, if_pos hw]

theorem isWideSlot_iff {x : Slot} : isWideSlot x = true ↔ x.extractLsb' 0 8 = 0x18#8 := beq_iff_eq

theorem inSecondSlots_false_zero (program : List Slot) : inSecondSlots false program 0 = false := by
  cases program <;> rfl

/-- The scan, whatever it takes the head of the list for: a second slot follows a wide slot that is none itself. -/
theorem inSecondSlots_succ_iff {second : Bool} {program : List Slot} {p : Nat} (h : p + 1 < program.length) :
    inSecondSlots second program (p + 1) = true ↔
      inSecondSlots second program p = false ∧ isWideSlot program[p] = true := by
  induction program generalizing second p with
  | nil => exact absurd h (Nat.not_lt_zero _)
  | cons x rest ih =>
    cases p with
    | succ p => exact ih (Nat.lt_of_succ_lt_succ h)
    | zero =>
      cases rest with
      | nil => exact absurd h (Nat.lt_irrefl 1)
      | cons y rest => simp [inSecondSlots]

/-! ### The register reads (`60_exceptions.md` R386) -/

/-- Registers are read in order, so the first unwritten one is the one that faults. -/
theorem withRegs_first_unwritten {s : State} {before after : List Reg} {r : Reg} (hb : AllWritten s before)
    (hr : s.reg r = .unwritten) (k : List Word → Out) :
    withRegs s (before ++ r :: after) k = raise s (.uninitRegister r) := by
  induction before generalizing k with
  | nil => exact withReg_unwritten hr _
  | cons q before ih =>
    obtain ⟨v, hv⟩ := hb.get List.mem_cons_self
    rw [List.cons_append, withRegs, withReg_written hv]
    exact ih (fun p hp => hb p (List.mem_cons_of_mem q hp)) _

/-- With all its registers written, an outcome that reads them first raises no `UninitRegister`. -/
theorem ReadsFirst.noUninit {s : State} {rs : List Reg} {o : Out} (h : ReadsFirst s rs o) (hw : AllWritten s rs) :
    NoUninit s o := by
  obtain ⟨k, rfl, hk⟩ := h
  obtain ⟨vs, _, hvs⟩ | ⟨r, hr, hu, _⟩ := withRegs_cases s rs k
  · rw [hvs]
    exact hk vs
  · exact absurd hu (hw r hr)

/-! ### The access (`60_exceptions.md` R387) -/

/-- A misaligned atomic, and under `STRICT_ALIGNMENT` any misaligned access, faults before its admission is asked. -/
theorem State.accessFault_misaligned {s : State} {ea : Word} {n : Nat} {kind : AccessKind} (hn : ea.toNat % n ≠ 0)
    (h : kind = .atomic ∨ s.params.strictAlignment = true) :
    s.accessFault ea n kind = some (.misaligned ea n) := by
  cases kind with
  | atomic => exact if_neg hn
  | read | write =>
    have hs : s.params.strictAlignment = true := h.resolve_left nofun
    rw [State.accessFault, State.plainFault, if_neg hn, if_pos hs]

/-! ### The helper call (`60_exceptions.md` R389) -/

theorem callHelper_unknown {s : State} {kind : CallKind} {imm : Word32} (h : s.params.helper kind imm = none) :
    callHelper kind imm s = raise s (.unknownHelper imm) := by
  simp only [callHelper, h]

/-! ### What a fault leaves (`60_exceptions.md` R381) -/

/-- The only effect that faults a running state is `raised`. -/
theorem Effect.eq_of_faulted {i : Instr} {s t : State} {c : Cause} {p : Int} (h : Effect i s t)
    (hs : s.status = .running) (hf : t.status = .faulted c p) :
    p = s.pc ∧ t = { s with status := .faulted c s.pc } := by
  cases h with
  | raised c =>
    cases hf
    exact ⟨rfl, rfl⟩
  | wrote | jumped | stored | updated | fetched | helped => exact absurd (hs.symm.trans hf) nofun
  | called | returned => simp [hs] at hf
  | ended => cases hf

/-! ### The statements -/

/-- Settles O27: the fault of the access is `Misaligned` before any region is looked at. -/
theorem misalignedFault : Obligations.MisalignedFault := by
  intro s i acc base ha hr hb ea hn hkind
  exact exec_access_fault ha hr hb (State.accessFault_misaligned hn hkind)

/-- Settles O37: every instruction reads the registers of `readRegs` first and in that order (`exec_reads`). -/
theorem unwrittenReadFault : Obligations.UnwrittenReadFault := by
  intro s i
  constructor
  · intro before r after hregs hbefore hr
    obtain ⟨k, hk, _⟩ := exec_reads i s
    rw [hk, hregs, withRegs_first_unwritten hbefore hr, raise_eq]
  · intro hs hw
    exact (exec_reads i s).noUninit hw hs

/-- Settles O40: the fetch refuses a second slot, and the scan is `inSecondSlots_succ_iff` from a head that is none. -/
theorem jumpIntoWideFault : Obligations.JumpIntoWideFault := by
  refine ⟨fun s hs h0 hlt hw => ?step, fun program => ⟨inSecondSlots_false_zero program, fun p h => ?scan⟩⟩
  case step => exact step_of_fetch_error hs (State.fetch_jumpIntoWide h0 hlt hw)
  case scan => rw [inSecondSlots_succ_iff h, isWideSlot_iff]

/-- Settles O44: a step faults in the fetch, which changes the status alone, or by the instruction's effect. -/
theorem faultChangesOnlyStatus : Obligations.FaultChangesOnlyStatus := by
  refine ⟨fun s t i c p hs ht hf => ?exec, fun s t c p hs ht hf => ?step, fun s c p hs t ht => ?ended⟩
  case exec => exact (exec_effect ht).eq_of_faulted hs hf
  case step =>
    obtain ⟨_, ⟨cause, _, rfl⟩ | ⟨i, _, hx⟩⟩ := step_cases ht
    · cases hf
      exact ⟨rfl, rfl⟩
    · exact (exec_effect hx).eq_of_faulted hs hf
  case ended => exact absurd (hs.symm.trans (step_cases ht).1) nofun

/-- Settles O23: the id is looked up in the table of the call's kind before an argument register is read. -/
theorem unknownHelperFault : Obligations.UnknownHelperFault :=
  fun _ _ => ⟨callHelper_unknown (kind := .byId), callHelper_unknown (kind := .byBtf)⟩

/-- Settles O35: each form is `loadAddress` of its own platform function, the two value forms of `mapValue`. -/
theorem unresolvedAddressFault : Obligations.UnresolvedAddressFault := by
  intro s dst imm nextImm
  simp only [forall_mem_pairs, List.forall_mem_cons, List.not_mem_nil, false_imp_iff, implies_true, and_true]
  refine ⟨?mapFd, ?mapValFd, ?varAddr, ?codeAddr, ?mapIdx, ?mapValIdx⟩
  case mapFd | varAddr | codeAddr | mapIdx => exact loadAddress_none
  case mapValFd | mapValIdx => exact fun h => loadAddress_none ((mapValue_eq_bind _ nextImm).trans h)

/-- Settles O39: the fetch asks for the range of `pc` before anything else. -/
theorem pcOutOfRangeFault : Obligations.PcOutOfRangeFault :=
  fun _ hs h => step_of_fetch_error hs (State.fetch_pcOutOfRange h)

end Sys2Proof.Machine
end

section
/-!
PROOF. Where execution starts (O2). The entry state is running at slot 0, so its first step is one of two steps already
known: the one that runs the decoded instruction (O38) and the one past the end of the program (O39).
-/

namespace Sys2Proof.Machine

/-- Slots that decode hold at least the slot the decoder reads first. -/
theorem length_pos_of_decode_ok {e : Endian} {strict : Bool} {slots : List Slot} {i : Instr}
    (h : decode e strict slots = .ok i) : 0 < slots.length := by
  obtain ⟨_, _, rfl, _⟩ := decode_ok_iff.mp h
  exact Nat.succ_pos _

/-- Settles O2: a program that decodes has a slot 0, which is no second slot; an empty one ends at `pc`. -/
theorem entryPoint : Obligations.EntryPoint := by
  intro p g plat
  refine ⟨rfl, inSecondSlots_false_zero p.program, fun i hd hl => ?decoded, fun hempty => ?empty⟩
  case decoded =>
    have hlt : (0 : Int) < p.program.length := Int.natCast_pos.mpr (length_pos_of_decode_ok hd)
    exact stepRunsDecodedInstruction (State.entry p g plat) i rfl le_rfl hlt (inSecondSlots_false_zero p.program) hd hl
  case empty =>
    have hend : (0 : Int) ≥ p.program.length := by simp [hempty]
    exact pcOutOfRangeFault (State.entry p g plat) rfl (.inr hend)

end Sys2Proof.Machine
end
